-- ==== Sys2Proof/Word.lean ====
section
/-! DEFINITION. The word types of both variants: 8-bit data (R1 "8-bit computing systems") and 16-bit
pointers, addresses and instruction words (R7). -/

namespace Sys2Proof

/-- An 8-bit byte: a data register or one cell of `mem`. -/
abbrev Byte := BitVec 8

/-- A 16-bit word: a pointer register, an address of variant LR or an instruction word of variant C8. -/
abbrev Word := BitVec 16

end Sys2Proof
end

