-- ==== Sys2Proof/Config.lean ====
section
/-! DEFINITION. What is fixed for an instance (R1, R7, R79) and the values the spec leaves free
(R91, R183). The configuration is plain data, so statements range over all of it; the free values are
constants without a body, so no proof can see what they are. -/

namespace Sys2Proof

/-- `SYSTEM` (R1): the variant of an instance. -/
inductive System where
  /-- the CHIP-8 virtual machine, "the first system" -/
  | c8
  /-- the Sharp LR35902, "the second system" -/
  | lr
  deriving DecidableEq, Repr

/-- One range of `READONLY_RANGES` (R79), both ends included. -/
structure AddrRange where
  first : Nat
  last : Nat
  deriving DecidableEq, Repr

/-- The configuration of an instance (R7): no instruction and no command changes it (R1, R422). -/
structure Configuration where
  /-- `SYSTEM` (R1) -/
  system : System
  /-- `READONLY_RANGES` (R79), default empty -/
  readOnly : List AddrRange
  deriving DecidableEq, Repr

/-- `RandByte` (R183, D21): the free 8-bit draw number `n`; no law relates two draws (U3). DESIGN CHOICE
(log 5). Safe. -/
opaque Config.randByte : Nat → Byte

/-- `COLOR_ON` (R91, D35): an open 32-bit value. Safe (log 4). -/
opaque Config.colorOn : BitVec 32

/-- The free value `COLOR_OFF` is taken from (log 4). -/
opaque Config.colorOffSeed : BitVec 32

/-- `COLOR_OFF` (R91): an open 32-bit value distinct from `COLOR_ON`. Every pair of distinct values is
some choice of the two constants (log 4). Safe. -/
def Config.colorOff : BitVec 32 :=
  if Config.colorOffSeed = Config.colorOn then ~~~Config.colorOn else Config.colorOffSeed

end Sys2Proof
end

