-- ==== Sys2Proof/Syntax.lean ====
section
/-! DEFINITION. The syntax of both variants: one constructor of `Instr` per row of
spec/opcode_table.json (R103, R110, R112). Constructors of variant C8 begin with `c8`, those of variant
LR with `lr`; a suffix `R` means a register operand, `M` the byte of memory at `(HL)`, `N` an immediate. -/

namespace Sys2Proof

/-- An index of `V[0..15]` (R21, R101). -/
abbrev VReg := Fin 16

/-- The seven 8-bit registers of variant LR that a register code names (R41); code 6 is `(HL)` and has
constructors of its own. -/
inductive Reg8 where
  | b | c | d | e | h | l | a
  deriving DecidableEq, Repr

/-- The register pairs of `LD rr,d16`, `INC rr`, `DEC rr`, `ADD HL,rr` (R42). -/
inductive Pair where
  | bc | de | hl | sp
  deriving DecidableEq, Repr

/-- The register pairs of `PUSH` and `POP` (R42). -/
inductive StackPair where
  | bc | de | hl | af
  deriving DecidableEq, Repr

/-- The condition codes of variant LR (R109). -/
inductive Cond where
  | nz | z | nc | c
  deriving DecidableEq, Repr

/-- The instructions of both variants. -/
inductive Instr where
  -- variant C8: control transfer
  /-- `RET` (R153) -/
  | c8Ret
  /-- `SYS nnn` (R160): raises `UnrecognizedOpcode` -/
  | c8Sys (nnn : BitVec 12)
  /-- `JP nnn` (R150) -/
  | c8Jp (nnn : BitVec 12)
  /-- `CALL nnn` (R151) -/
  | c8Call (nnn : BitVec 12)
  /-- `SE Vx,kk` (R154) -/
  | c8SeImm (x : VReg) (kk : Byte)
  /-- `SNE Vx,kk` (R155) -/
  | c8SneImm (x : VReg) (kk : Byte)
  /-- `SE Vx,Vy` (R156) -/
  | c8SeReg (x y : VReg)
  /-- `SNE Vx,Vy` (R157) -/
  | c8SneReg (x y : VReg)
  /-- `JP V0,nnn` (R152) -/
  | c8JpV0 (nnn : BitVec 12)
  /-- `SKP Vx` (R158) -/
  | c8Skp (x : VReg)
  /-- `SKNP Vx` (R159) -/
  | c8Sknp (x : VReg)
  -- variant C8: registers, arithmetic, logic
  /-- `LD Vx,kk` (R170) -/
  | c8LdImm (x : VReg) (kk : Byte)
  /-- `ADD Vx,kk` (R171) -/
  | c8AddImm (x : VReg) (kk : Byte)
  /-- `LD Vx,Vy` (R172) -/
  | c8LdReg (x y : VReg)
  /-- `OR Vx,Vy` (R173) -/
  | c8Or (x y : VReg)
  /-- `AND Vx,Vy` (R174) -/
  | c8And (x y : VReg)
  /-- `XOR Vx,Vy` (R175) -/
  | c8Xor (x y : VReg)
  /-- `ADD Vx,Vy` (R178) -/
  | c8AddReg (x y : VReg)
  /-- `SUB Vx,Vy` (R179) -/
  | c8Sub (x y : VReg)
  /-- `SHR Vx` (R181); the field `y` is ignored and kept here as syntax only -/
  | c8Shr (x y : VReg)
  /-- `SUBN Vx,Vy` (R180) -/
  | c8Subn (x y : VReg)
  /-- `SHL Vx` (R182); the field `y` is ignored and kept here as syntax only -/
  | c8Shl (x y : VReg)
  /-- `LD I,nnn` (R184) -/
  | c8LdI (nnn : BitVec 12)
  /-- `RND Vx,kk` (R183) -/
  | c8Rnd (x : VReg) (kk : Byte)
  /-- `ADD I,Vx` (R185) -/
  | c8AddI (x : VReg)
  -- variant C8: display, timers, key wait, memory
  /-- `CLS` (R200) -/
  | c8Cls
  /-- `DRW Vx,Vy,n` (R201) -/
  | c8Drw (x y : VReg) (n : Fin 16)
  /-- `LD Vx,DT` (R202) -/
  | c8LdVxDt (x : VReg)
  /-- `LD Vx,K` (R203) -/
  | c8LdVxK (x : VReg)
  /-- `LD DT,Vx` (R204) -/
  | c8LdDtVx (x : VReg)
  /-- `LD ST,Vx` (R205) -/
  | c8LdStVx (x : VReg)
  /-- `LD F,Vx` (R207) -/
  | c8LdF (x : VReg)
  /-- `LD B,Vx` (R206) -/
  | c8LdB (x : VReg)
  /-- `LD [I],Vx` (R208) -/
  | c8StoreRegs (x : VReg)
  /-- `LD Vx,[I]` (R209) -/
  | c8LoadRegs (x : VReg)
  -- variant LR: 8-bit loads
  /-- `LD r,r'` (R220) -/
  | lrLdRR (dst src : Reg8)
  /-- `LD r,(HL)` (R221) -/
  | lrLdRM (dst : Reg8)
  /-- `LD (HL),r` (R222) -/
  | lrLdMR (src : Reg8)
  /-- `LD r,d8` (R223) -/
  | lrLdRN (dst : Reg8) (d8 : Byte)
  /-- `LD (HL),d8` (R224) -/
  | lrLdMN (d8 : Byte)
  /-- `LD A,(BC)` (R225) -/
  | lrLdABc
  /-- `LD A,(DE)` (R226) -/
  | lrLdADe
  /-- `LD (BC),A` (R227) -/
  | lrLdBcA
  /-- `LD (DE),A` (R228) -/
  | lrLdDeA
  /-- `LD A,(a16)` (R229) -/
  | lrLdAA16 (a16 : Word)
  /-- `LD (a16),A` (R230) -/
  | lrLdA16A (a16 : Word)
  /-- `LDH A,(a8)` (R231) -/
  | lrLdhAA8 (a8 : Byte)
  /-- `LDH (a8),A` (R232) -/
  | lrLdhA8A (a8 : Byte)
  /-- `LD A,(C)` (R233) -/
  | lrLdAC
  /-- `LD (C),A` (R234) -/
  | lrLdCA
  /-- `LD (HL+),A` (R235) -/
  | lrLdHliA
  /-- `LD A,(HL+)` (R236) -/
  | lrLdAHli
  /-- `LD (HL-),A` (R237) -/
  | lrLdHldA
  /-- `LD A,(HL-)` (R238) -/
  | lrLdAHld
  -- variant LR: 16-bit loads and stack
  /-- `LD rr,d16` (R250) -/
  | lrLdPairN (p : Pair) (d16 : Word)
  /-- `LD (a16),SP` (R251) -/
  | lrLdA16Sp (a16 : Word)
  /-- `LD SP,HL` (R252) -/
  | lrLdSpHl
  /-- `LD HL,SP+e` (R253) -/
  | lrLdHlSp (e : Byte)
  /-- `PUSH rr` (R254) -/
  | lrPush (p : StackPair)
  /-- `POP rr` (R255): BC, DE or HL -/
  | lrPop (p : StackPair)
  /-- `POP AF` (R256) -/
  | lrPopAf
  -- variant LR: 8-bit arithmetic and logic
  /-- `ADD A,r` (R266) -/
  | lrAddR (r : Reg8)
  /-- `ADD A,(HL)` (R266) -/
  | lrAddM
  /-- `ADD A,d8` (R266) -/
  | lrAddN (d8 : Byte)
  /-- `ADC A,r` (R267) -/
  | lrAdcR (r : Reg8)
  /-- `ADC A,(HL)` (R267) -/
  | lrAdcM
  /-- `ADC A,d8` (R267) -/
  | lrAdcN (d8 : Byte)
  /-- `SUB r` (R268) -/
  | lrSubR (r : Reg8)
  /-- `SUB (HL)` (R268) -/
  | lrSubM
  /-- `SUB d8` (R268) -/
  | lrSubN (d8 : Byte)
  /-- `SBC A,r` (R269) -/
  | lrSbcR (r : Reg8)
  /-- `SBC A,(HL)` (R269) -/
  | lrSbcM
  /-- `SBC A,d8` (R269) -/
  | lrSbcN (d8 : Byte)
  /-- `AND r` (R270) -/
  | lrAndR (r : Reg8)
  /-- `AND (HL)` (R270) -/
  | lrAndM
  /-- `AND d8` (R270) -/
  | lrAndN (d8 : Byte)
  /-- `XOR r` (R271) -/
  | lrXorR (r : Reg8)
  /-- `XOR (HL)` (R271) -/
  | lrXorM
  /-- `XOR d8` (R271) -/
  | lrXorN (d8 : Byte)
  /-- `OR r` (R272) -/
  | lrOrR (r : Reg8)
  /-- `OR (HL)` (R272) -/
  | lrOrM
  /-- `OR d8` (R272) -/
  | lrOrN (d8 : Byte)
  /-- `CP r` (R273) -/
  | lrCpR (r : Reg8)
  /-- `CP (HL)` (R273) -/
  | lrCpM
  /-- `CP d8` (R273) -/
  | lrCpN (d8 : Byte)
  /-- `INC r` (R274) -/
  | lrIncR (r : Reg8)
  /-- `INC (HL)` (R274) -/
  | lrIncM
  /-- `DEC r` (R275) -/
  | lrDecR (r : Reg8)
  /-- `DEC (HL)` (R275) -/
  | lrDecM
  /-- `DAA` (R276) -/
  | lrDaa
  /-- `CPL` (R277) -/
  | lrCpl
  /-- `SCF` (R278) -/
  | lrScf
  /-- `CCF` (R279) -/
  | lrCcf
  -- variant LR: 16-bit arithmetic
  /-- `ADD HL,rr` (R300) -/
  | lrAddHl (p : Pair)
  /-- `INC rr` (R301) -/
  | lrIncPair (p : Pair)
  /-- `DEC rr` (R302) -/
  | lrDecPair (p : Pair)
  /-- `ADD SP,e` (R303) -/
  | lrAddSp (e : Byte)
  -- variant LR: rotates, shifts, bits
  /-- `RLCA` (R310) -/
  | lrRlca
  /-- `RRCA` (R311) -/
  | lrRrca
  /-- `RLA` (R312) -/
  | lrRla
  /-- `RRA` (R313) -/
  | lrRra
  /-- `RLC r` (R314) -/
  | lrRlcR (r : Reg8)
  /-- `RLC (HL)` (R314) -/
  | lrRlcM
  /-- `RRC r` (R315) -/
  | lrRrcR (r : Reg8)
  /-- `RRC (HL)` (R315) -/
  | lrRrcM
  /-- `RL r` (R316) -/
  | lrRlR (r : Reg8)
  /-- `RL (HL)` (R316) -/
  | lrRlM
  /-- `RR r` (R317) -/
  | lrRrR (r : Reg8)
  /-- `RR (HL)` (R317) -/
  | lrRrM
  /-- `SLA r` (R318) -/
  | lrSlaR (r : Reg8)
  /-- `SLA (HL)` (R318) -/
  | lrSlaM
  /-- `SRA r` (R319) -/
  | lrSraR (r : Reg8)
  /-- `SRA (HL)` (R319) -/
  | lrSraM
  /-- `SWAP r` (R320) -/
  | lrSwapR (r : Reg8)
  /-- `SWAP (HL)` (R320) -/
  | lrSwapM
  /-- `SRL r` (R321) -/
  | lrSrlR (r : Reg8)
  /-- `SRL (HL)` (R321) -/
  | lrSrlM
  /-- `BIT b,r` (R322) -/
  | lrBitR (b : Fin 8) (r : Reg8)
  /-- `BIT b,(HL)` (R322) -/
  | lrBitM (b : Fin 8)
  /-- `RES b,r` (R323) -/
  | lrResR (b : Fin 8) (r : Reg8)
  /-- `RES b,(HL)` (R323) -/
  | lrResM (b : Fin 8)
  /-- `SET b,r` (R324) -/
  | lrSetR (b : Fin 8) (r : Reg8)
  /-- `SET b,(HL)` (R324) -/
  | lrSetM (b : Fin 8)
  /-- the prefix row `PREFIX CB` (R112) with the byte `b1` after it: no instruction by itself (log 14) -/
  | lrPrefixCb (b1 : Byte)
  -- variant LR: control transfer, interrupt control, halt, stop
  /-- `NOP` (R340) -/
  | lrNop
  /-- `JP a16` (R341) -/
  | lrJp (a16 : Word)
  /-- `JP cc,a16` (R342) -/
  | lrJpCc (cc : Cond) (a16 : Word)
  /-- `JP (HL)` (R343) -/
  | lrJpHl
  /-- `JR e` (R344) -/
  | lrJr (e : Byte)
  /-- `JR cc,e` (R345) -/
  | lrJrCc (cc : Cond) (e : Byte)
  /-- `CALL a16` (R346) -/
  | lrCall (a16 : Word)
  /-- `CALL cc,a16` (R347) -/
  | lrCallCc (cc : Cond) (a16 : Word)
  /-- `RET` (R348) -/
  | lrRet
  /-- `RET cc` (R349) -/
  | lrRetCc (cc : Cond)
  /-- `RETI` (R350) -/
  | lrReti
  /-- `RST 8*n` (R357) -/
  | lrRst (n : Fin 8)
  /-- `DI` (R358) -/
  | lrDi
  /-- `EI` (R359) -/
  | lrEi
  /-- `HALT` (R361) -/
  | lrHalt
  /-- `STOP` (R362); the second byte is fetched and ignored -/
  | lrStop (b1 : Byte)
  deriving DecidableEq, Repr

/-- The variant an instruction belongs to (the `variant` field of its row, R118). -/
def Instr.system : Instr → System
  | .c8Ret | .c8Sys _ | .c8Jp _ | .c8Call _ | .c8SeImm _ _ | .c8SneImm _ _ | .c8SeReg _ _
  | .c8SneReg _ _ | .c8JpV0 _ | .c8Skp _ | .c8Sknp _ | .c8LdImm _ _ | .c8AddImm _ _
  | .c8LdReg _ _ | .c8Or _ _ | .c8And _ _ | .c8Xor _ _ | .c8AddReg _ _ | .c8Sub _ _ | .c8Shr _ _
  | .c8Subn _ _ | .c8Shl _ _ | .c8LdI _ | .c8Rnd _ _ | .c8AddI _ | .c8Cls | .c8Drw _ _ _
  | .c8LdVxDt _ | .c8LdVxK _ | .c8LdDtVx _ | .c8LdStVx _ | .c8LdF _ | .c8LdB _ | .c8StoreRegs _
  | .c8LoadRegs _ => .c8
  | .lrLdRR _ _ | .lrLdRM _ | .lrLdMR _ | .lrLdRN _ _ | .lrLdMN _ | .lrLdABc | .lrLdADe
  | .lrLdBcA | .lrLdDeA | .lrLdAA16 _ | .lrLdA16A _ | .lrLdhAA8 _ | .lrLdhA8A _ | .lrLdAC
  | .lrLdCA | .lrLdHliA | .lrLdAHli | .lrLdHldA | .lrLdAHld | .lrLdPairN _ _ | .lrLdA16Sp _
  | .lrLdSpHl | .lrLdHlSp _ | .lrPush _ | .lrPop _ | .lrPopAf | .lrAddR _ | .lrAddM | .lrAddN _
  | .lrAdcR _ | .lrAdcM | .lrAdcN _ | .lrSubR _ | .lrSubM | .lrSubN _ | .lrSbcR _ | .lrSbcM
  | .lrSbcN _ | .lrAndR _ | .lrAndM | .lrAndN _ | .lrXorR _ | .lrXorM | .lrXorN _ | .lrOrR _
  | .lrOrM | .lrOrN _ | .lrCpR _ | .lrCpM | .lrCpN _ | .lrIncR _ | .lrIncM | .lrDecR _ | .lrDecM
  | .lrDaa | .lrCpl | .lrScf | .lrCcf | .lrAddHl _ | .lrIncPair _ | .lrDecPair _ | .lrAddSp _
  | .lrRlca | .lrRrca | .lrRla | .lrRra | .lrRlcR _ | .lrRlcM | .lrRrcR _ | .lrRrcM | .lrRlR _
  | .lrRlM | .lrRrR _ | .lrRrM | .lrSlaR _ | .lrSlaM | .lrSraR _ | .lrSraM | .lrSwapR _
  | .lrSwapM | .lrSrlR _ | .lrSrlM | .lrBitR _ _ | .lrBitM _ | .lrResR _ _ | .lrResM _
  | .lrSetR _ _ | .lrSetM _ | .lrPrefixCb _ | .lrNop | .lrJp _ | .lrJpCc _ _ | .lrJpHl | .lrJr _
  | .lrJrCc _ _ | .lrCall _ | .lrCallCc _ _ | .lrRet | .lrRetCc _ | .lrReti | .lrRst _ | .lrDi
  | .lrEi | .lrHalt | .lrStop _ => .lr

/-- The length of an instruction in bytes (R100, R111, the `length` field of its row). -/
def Instr.length : Instr → Nat
  | .lrLdRR _ _ | .lrLdRM _ | .lrLdMR _ | .lrLdABc | .lrLdADe | .lrLdBcA | .lrLdDeA | .lrLdAC
  | .lrLdCA | .lrLdHliA | .lrLdAHli | .lrLdHldA | .lrLdAHld | .lrLdSpHl | .lrPush _ | .lrPop _
  | .lrPopAf | .lrAddR _ | .lrAddM | .lrAdcR _ | .lrAdcM | .lrSubR _ | .lrSubM | .lrSbcR _
  | .lrSbcM | .lrAndR _ | .lrAndM | .lrXorR _ | .lrXorM | .lrOrR _ | .lrOrM | .lrCpR _ | .lrCpM
  | .lrIncR _ | .lrIncM | .lrDecR _ | .lrDecM | .lrDaa | .lrCpl | .lrScf | .lrCcf | .lrAddHl _
  | .lrIncPair _ | .lrDecPair _ | .lrRlca | .lrRrca | .lrRla | .lrRra | .lrNop | .lrJpHl | .lrRet
  | .lrRetCc _ | .lrReti | .lrRst _ | .lrDi | .lrEi | .lrHalt => 1
  | .c8Ret | .c8Sys _ | .c8Jp _ | .c8Call _ | .c8SeImm _ _ | .c8SneImm _ _ | .c8SeReg _ _
  | .c8SneReg _ _ | .c8JpV0 _ | .c8Skp _ | .c8Sknp _ | .c8LdImm _ _ | .c8AddImm _ _
  | .c8LdReg _ _ | .c8Or _ _ | .c8And _ _ | .c8Xor _ _ | .c8AddReg _ _ | .c8Sub _ _ | .c8Shr _ _
  | .c8Subn _ _ | .c8Shl _ _ | .c8LdI _ | .c8Rnd _ _ | .c8AddI _ | .c8Cls | .c8Drw _ _ _
  | .c8LdVxDt _ | .c8LdVxK _ | .c8LdDtVx _ | .c8LdStVx _ | .c8LdF _ | .c8LdB _ | .c8StoreRegs _
  | .c8LoadRegs _ | .lrLdRN _ _ | .lrLdMN _ | .lrLdhAA8 _ | .lrLdhA8A _ | .lrLdHlSp _ | .lrAddN _
  | .lrAdcN _ | .lrSubN _ | .lrSbcN _ | .lrAndN _ | .lrXorN _ | .lrOrN _ | .lrCpN _ | .lrAddSp _
  | .lrRlcR _ | .lrRlcM | .lrRrcR _ | .lrRrcM | .lrRlR _ | .lrRlM | .lrRrR _ | .lrRrM | .lrSlaR _
  | .lrSlaM | .lrSraR _ | .lrSraM | .lrSwapR _ | .lrSwapM | .lrSrlR _ | .lrSrlM | .lrBitR _ _
  | .lrBitM _ | .lrResR _ _ | .lrResM _ | .lrSetR _ _ | .lrSetM _ | .lrPrefixCb _ | .lrJr _
  | .lrJrCc _ _ | .lrStop _ => 2
  | .lrLdAA16 _ | .lrLdA16A _ | .lrLdPairN _ _ | .lrLdA16Sp _ | .lrJp _ | .lrJpCc _ _ | .lrCall _
  | .lrCallCc _ _ => 3

end Sys2Proof
end

