-- ==== Sys2Proof/WellFormed.lean ====
section
/-! DEFINITION. Well-formedness: the constructor terms that are the reading of some encoding. The types
of the fields carry the field widths already (R101, R106), so three checks remain. -/

namespace Sys2Proof

/-- `nnn` is not one of the two words the `SYS` row excludes (R103, R160). -/
def sysOperandOk (nnn : BitVec 12) : Bool :=
  nnn != 0x0E0#12 && nnn != 0x0EE#12

/-- `POP rr` has `pp != 3`: `POP AF` is an instruction of its own (R255, R256). -/
def popPairOk (p : StackPair) : Bool :=
  p != .af

/-- Is the term the reading of some encoding? The prefix row is not an instruction by itself (R112, the
note of its row): the prefix byte and the next one read as an instruction of the prefixed map. -/
def Instr.wf : Instr → Bool
  | .c8Sys nnn => sysOperandOk nnn
  | .lrPop p => popPairOk p
  | .lrPrefixCb _ => false
  | .c8Ret | .c8Jp _ | .c8Call _ | .c8SeImm _ _ | .c8SneImm _ _ | .c8SeReg _ _ | .c8SneReg _ _
  | .c8JpV0 _ | .c8Skp _ | .c8Sknp _ | .c8LdImm _ _ | .c8AddImm _ _ | .c8LdReg _ _ | .c8Or _ _
  | .c8And _ _ | .c8Xor _ _ | .c8AddReg _ _ | .c8Sub _ _ | .c8Shr _ _ | .c8Subn _ _ | .c8Shl _ _
  | .c8LdI _ | .c8Rnd _ _ | .c8AddI _ | .c8Cls | .c8Drw _ _ _ | .c8LdVxDt _ | .c8LdVxK _
  | .c8LdDtVx _ | .c8LdStVx _ | .c8LdF _ | .c8LdB _ | .c8StoreRegs _ | .c8LoadRegs _
  | .lrLdRR _ _ | .lrLdRM _ | .lrLdMR _ | .lrLdRN _ _ | .lrLdMN _ | .lrLdABc | .lrLdADe
  | .lrLdBcA | .lrLdDeA | .lrLdAA16 _ | .lrLdA16A _ | .lrLdhAA8 _ | .lrLdhA8A _ | .lrLdAC
  | .lrLdCA | .lrLdHliA | .lrLdAHli | .lrLdHldA | .lrLdAHld | .lrLdPairN _ _ | .lrLdA16Sp _
  | .lrLdSpHl | .lrLdHlSp _ | .lrPush _ | .lrPopAf | .lrAddR _ | .lrAddM | .lrAddN _ | .lrAdcR _
  | .lrAdcM | .lrAdcN _ | .lrSubR _ | .lrSubM | .lrSubN _ | .lrSbcR _ | .lrSbcM | .lrSbcN _
  | .lrAndR _ | .lrAndM | .lrAndN _ | .lrXorR _ | .lrXorM | .lrXorN _ | .lrOrR _ | .lrOrM
  | .lrOrN _ | .lrCpR _ | .lrCpM | .lrCpN _ | .lrIncR _ | .lrIncM | .lrDecR _ | .lrDecM | .lrDaa
  | .lrCpl | .lrScf | .lrCcf | .lrAddHl _ | .lrIncPair _ | .lrDecPair _ | .lrAddSp _ | .lrRlca
  | .lrRrca | .lrRla | .lrRra | .lrRlcR _ | .lrRlcM | .lrRrcR _ | .lrRrcM | .lrRlR _ | .lrRlM
  | .lrRrR _ | .lrRrM | .lrSlaR _ | .lrSlaM | .lrSraR _ | .lrSraM | .lrSwapR _ | .lrSwapM
  | .lrSrlR _ | .lrSrlM | .lrBitR _ _ | .lrBitM _ | .lrResR _ _ | .lrResM _ | .lrSetR _ _
  | .lrSetM _ | .lrNop | .lrJp _ | .lrJpCc _ _ | .lrJpHl | .lrJr _ | .lrJrCc _ _ | .lrCall _
  | .lrCallCc _ _ | .lrRet | .lrRetCc _ | .lrReti | .lrRst _ | .lrDi | .lrEi | .lrHalt
  | .lrStop _ => true

end Sys2Proof
end

