-- ==== Sys2Proof/Decode.lean ====
section
/-! DEFINITION. Decoding and encoding (R100 to R118). Decode is a pure function from bytes to an
instruction and the bytes after it, or a named rejection (R116). -/

namespace Sys2Proof

/-! ## Register, pair and condition codes -/

/-- The register with code `c` (R41); none for code 6, `(HL)`. -/
def regOfCode : Nat → Option Reg8
  | 0 => some .b
  | 1 => some .c
  | 2 => some .d
  | 3 => some .e
  | 4 => some .h
  | 5 => some .l
  | 7 => some .a
  | _ => none

/-- The code of a register (R41). -/
def regCode : Reg8 → Nat
  | .b => 0
  | .c => 1
  | .d => 2
  | .e => 3
  | .h => 4
  | .l => 5
  | .a => 7

/-- The pair with code `pp` in `LD rr,d16`, `INC rr`, `DEC rr`, `ADD HL,rr` (R42). -/
def pairOfCode : Nat → Pair
  | 0 => .bc
  | 1 => .de
  | 2 => .hl
  | _ => .sp

/-- The code of a pair (R42). -/
def pairCode : Pair → Nat
  | .bc => 0
  | .de => 1
  | .hl => 2
  | .sp => 3

/-- The pair with code `pp` in `PUSH` and `POP` (R42). -/
def stackPairOfCode : Nat → StackPair
  | 0 => .bc
  | 1 => .de
  | 2 => .hl
  | _ => .af

/-- The code of a pair of `PUSH` and `POP` (R42). -/
def stackPairCode : StackPair → Nat
  | .bc => 0
  | .de => 1
  | .hl => 2
  | .af => 3

/-- The condition with code `cc` (R109). -/
def condOfCode : Nat → Cond
  | 0 => .nz
  | 1 => .z
  | 2 => .nc
  | _ => .c

/-- The code of a condition (R109). -/
def condCode : Cond → Nat
  | .nz => 0
  | .z => 1
  | .nc => 2
  | .c => 3

/-- The instruction of a row pair: `f r` for a register code, `m` for code 6, `(HL)` (R41, R115). -/
def onOperand (code : Nat) (f : Reg8 → Instr) (m : Instr) : Instr :=
  match regOfCode code with
  | some r => f r
  | none => m

/-! ## Fields -/

/-- The field `w[lo+3:lo]` of a word of variant C8 (R101), as a register index or 4-bit count. -/
def nibble (w : Word) (lo : Nat) : Fin 16 :=
  (w.extractLsb' lo 4).toFin

/-- The field `kk` (R101). -/
def fieldKk (w : Word) : Byte :=
  w.extractLsb' 0 8

/-- The field `nnn` (R101). -/
def fieldNnn (w : Word) : BitVec 12 :=
  w.extractLsb' 0 12

/-- Field `xx`, bits 7..6 (R106). -/
def fieldXx (b : Byte) : Nat :=
  (b.extractLsb' 6 2).toNat

/-- Field `yyy`, bits 5..3 (R106), as a bit number or `RST` index. -/
def fieldYyy (b : Byte) : Fin 8 :=
  (b.extractLsb' 3 3).toFin

/-- Field `zzz`, bits 2..0 (R106). -/
def fieldZzz (b : Byte) : Nat :=
  (b.extractLsb' 0 3).toNat

/-- Field `pp`, bits 5..4 (R106). -/
def fieldPp (b : Byte) : Nat :=
  (b.extractLsb' 4 2).toNat

/-- Field `q`, bit 3 (R106). -/
def fieldQ (b : Byte) : Bool :=
  b.getLsbD 3

/-- Field `cc`, bits 4..3 (R106). -/
def fieldCc (b : Byte) : Cond :=
  condOfCode (b.extractLsb' 3 2).toNat

/-! ## Variant C8 -/

/-- The rows `8xyn` (R103). -/
def decodeArith (x y : VReg) : Nat → Option Instr
  | 0x0 => some (.c8LdReg x y)
  | 0x1 => some (.c8Or x y)
  | 0x2 => some (.c8And x y)
  | 0x3 => some (.c8Xor x y)
  | 0x4 => some (.c8AddReg x y)
  | 0x5 => some (.c8Sub x y)
  | 0x6 => some (.c8Shr x y)
  | 0x7 => some (.c8Subn x y)
  | 0xE => some (.c8Shl x y)
  | _ => none

/-- The rows `Exkk` (R103). -/
def decodeKey (x : VReg) : Nat → Option Instr
  | 0x9E => some (.c8Skp x)
  | 0xA1 => some (.c8Sknp x)
  | _ => none

/-- The rows `Fxkk` (R103). -/
def decodeMisc (x : VReg) : Nat → Option Instr
  | 0x07 => some (.c8LdVxDt x)
  | 0x0A => some (.c8LdVxK x)
  | 0x15 => some (.c8LdDtVx x)
  | 0x18 => some (.c8LdStVx x)
  | 0x1E => some (.c8AddI x)
  | 0x29 => some (.c8LdF x)
  | 0x33 => some (.c8LdB x)
  | 0x55 => some (.c8StoreRegs x)
  | 0x65 => some (.c8LoadRegs x)
  | _ => none

/-- The rows `0nnn` (R103): `00E0` and `00EE` take precedence over `SYS`. -/
def decodeZero (nnn : BitVec 12) : Instr :=
  if nnn = 0x0E0#12 then .c8Cls
  else if nnn = 0x0EE#12 then .c8Ret
  else .c8Sys nnn

/-- The opcode map of variant C8 (R103): none for an unassigned word (R104). -/
def decodeWord (w : Word) : Option Instr :=
  let x := nibble w 8
  let y := nibble w 4
  let n := nibble w 0
  let kk := fieldKk w
  let nnn := fieldNnn w
  match (nibble w 12).val with
  | 0x0 => some (decodeZero nnn)
  | 0x1 => some (.c8Jp nnn)
  | 0x2 => some (.c8Call nnn)
  | 0x3 => some (.c8SeImm x kk)
  | 0x4 => some (.c8SneImm x kk)
  | 0x5 => if n.val = 0 then some (.c8SeReg x y) else none
  | 0x6 => some (.c8LdImm x kk)
  | 0x7 => some (.c8AddImm x kk)
  | 0x8 => decodeArith x y n.val
  | 0x9 => if n.val = 0 then some (.c8SneReg x y) else none
  | 0xA => some (.c8LdI nnn)
  | 0xB => some (.c8JpV0 nnn)
  | 0xC => some (.c8Rnd x kk)
  | 0xD => some (.c8Drw x y n)
  | 0xE => decodeKey x kk.toNat
  | _ => decodeMisc x kk.toNat

/-! ## Variant LR -/

/-- The eleven unassigned first bytes (R113). -/
def unassignedBytes : List Byte :=
  [0xD3#8, 0xDB#8, 0xDD#8, 0xE3#8, 0xE4#8, 0xEB#8, 0xEC#8, 0xED#8, 0xF4#8, 0xFC#8, 0xFD#8]

/-- The first bytes of 3-byte instructions (R111). -/
def threeByteOpcodes : List Byte :=
  [0x01#8, 0x11#8, 0x21#8, 0x31#8, 0x08#8, 0xC2#8, 0xCA#8, 0xD2#8, 0xDA#8, 0xC3#8,
   0xC4#8, 0xCC#8, 0xD4#8, 0xDC#8, 0xCD#8, 0xEA#8, 0xFA#8]

/-- The first bytes of 2-byte instructions, the prefix among them (R111). -/
def twoByteOpcodes : List Byte :=
  [0x06#8, 0x0E#8, 0x16#8, 0x1E#8, 0x26#8, 0x2E#8, 0x36#8, 0x3E#8, 0x10#8, 0x18#8, 0x20#8, 0x28#8,
   0x30#8, 0x38#8, 0xC6#8, 0xCE#8, 0xD6#8, 0xDE#8, 0xE6#8, 0xEE#8, 0xF6#8, 0xFE#8, 0xE0#8, 0xF0#8,
   0xE8#8, 0xF8#8, 0xCB#8]

/-- The length of an instruction of variant LR by its first byte (R111). -/
def lengthByFirst (b0 : Byte) : Nat :=
  if b0 ∈ threeByteOpcodes then 3
  else if b0 ∈ twoByteOpcodes then 2
  else 1

/-- The rows `alu[yyy] A,s` (R110): `ADD`, `ADC`, `SUB`, `SBC`, `AND`, `XOR`, `OR`, `CP` on a register or
`(HL)`. -/
def decodeAlu (yyy zzz : Nat) : Instr :=
  match yyy with
  | 0 => onOperand zzz .lrAddR .lrAddM
  | 1 => onOperand zzz .lrAdcR .lrAdcM
  | 2 => onOperand zzz .lrSubR .lrSubM
  | 3 => onOperand zzz .lrSbcR .lrSbcM
  | 4 => onOperand zzz .lrAndR .lrAndM
  | 5 => onOperand zzz .lrXorR .lrXorM
  | 6 => onOperand zzz .lrOrR .lrOrM
  | _ => onOperand zzz .lrCpR .lrCpM

/-- The rows `alu[yyy] A,d8` (R110). -/
def decodeAluImm (yyy : Nat) (d8 : Byte) : Instr :=
  match yyy with
  | 0 => .lrAddN d8
  | 1 => .lrAdcN d8
  | 2 => .lrSubN d8
  | 3 => .lrSbcN d8
  | 4 => .lrAndN d8
  | 5 => .lrXorN d8
  | 6 => .lrOrN d8
  | _ => .lrCpN d8

/-- The rows `rot[yyy] r[zzz]` of the prefixed map (R112). -/
def decodeRot (yyy zzz : Nat) : Instr :=
  match yyy with
  | 0 => onOperand zzz .lrRlcR .lrRlcM
  | 1 => onOperand zzz .lrRrcR .lrRrcM
  | 2 => onOperand zzz .lrRlR .lrRlM
  | 3 => onOperand zzz .lrRrR .lrRrM
  | 4 => onOperand zzz .lrSlaR .lrSlaM
  | 5 => onOperand zzz .lrSraR .lrSraM
  | 6 => onOperand zzz .lrSwapR .lrSwapM
  | _ => onOperand zzz .lrSrlR .lrSrlM

/-- The prefixed map (R112): every byte after 0xCB is assigned. -/
def decodePrefixed (b1 : Byte) : Instr :=
  let yyy := fieldYyy b1
  let zzz := fieldZzz b1
  match fieldXx b1 with
  | 0 => decodeRot yyy.val zzz
  | 1 => onOperand zzz (.lrBitR yyy) (.lrBitM yyy)
  | 2 => onOperand zzz (.lrResR yyy) (.lrResM yyy)
  | _ => onOperand zzz (.lrSetR yyy) (.lrSetM yyy)

/-- Quadrant `xx = 0` (R110). -/
def decodeQuadrant0 (b0 b1 : Byte) (imm16 : Word) : Instr :=
  let yyy := (fieldYyy b0).val
  let pp := fieldPp b0
  match fieldZzz b0 with
  | 0 =>
    match yyy with
    | 0 => .lrNop
    | 1 => .lrLdA16Sp imm16
    | 2 => .lrStop b1
    | 3 => .lrJr b1
    | _ => .lrJrCc (fieldCc b0) b1
  | 1 => if fieldQ b0 then .lrAddHl (pairOfCode pp) else .lrLdPairN (pairOfCode pp) imm16
  | 2 =>
    match yyy with
    | 0 => .lrLdBcA
    | 1 => .lrLdABc
    | 2 => .lrLdDeA
    | 3 => .lrLdADe
    | 4 => .lrLdHliA
    | 5 => .lrLdAHli
    | 6 => .lrLdHldA
    | _ => .lrLdAHld
  | 3 => if fieldQ b0 then .lrDecPair (pairOfCode pp) else .lrIncPair (pairOfCode pp)
  | 4 => onOperand yyy .lrIncR .lrIncM
  | 5 => onOperand yyy .lrDecR .lrDecM
  | 6 => onOperand yyy (fun r => .lrLdRN r b1) (.lrLdMN b1)
  | _ =>
    match yyy with
    | 0 => .lrRlca
    | 1 => .lrRrca
    | 2 => .lrRla
    | 3 => .lrRra
    | 4 => .lrDaa
    | 5 => .lrCpl
    | 6 => .lrScf
    | _ => .lrCcf

/-- Quadrant `xx = 1` (R110): `LD r[yyy],r[zzz]`, and `HALT` where both codes are 6. -/
def decodeQuadrant1 (b0 : Byte) : Instr :=
  match regOfCode (fieldYyy b0).val, regOfCode (fieldZzz b0) with
  | some dst, some src => .lrLdRR dst src
  | some dst, none => .lrLdRM dst
  | none, some src => .lrLdMR src
  | none, none => .lrHalt

/-- Quadrant `xx = 3` (R110): none for the unassigned bytes (R113). -/
def decodeQuadrant3 (b0 b1 : Byte) (imm16 : Word) : Option Instr :=
  let yyy := fieldYyy b0
  let pp := fieldPp b0
  match fieldZzz b0 with
  | 0 =>
    match yyy.val with
    | 4 => some (.lrLdhA8A b1)
    | 5 => some (.lrAddSp b1)
    | 6 => some (.lrLdhAA8 b1)
    | 7 => some (.lrLdHlSp b1)
    | _ => some (.lrRetCc (fieldCc b0))
  | 1 =>
    match yyy.val with
    | 1 => some .lrRet
    | 3 => some .lrReti
    | 5 => some .lrJpHl
    | 7 => some .lrLdSpHl
    | 6 => some .lrPopAf
    | _ => some (.lrPop (stackPairOfCode pp))
  | 2 =>
    match yyy.val with
    | 4 => some .lrLdCA
    | 5 => some (.lrLdA16A imm16)
    | 6 => some .lrLdAC
    | 7 => some (.lrLdAA16 imm16)
    | _ => some (.lrJpCc (fieldCc b0) imm16)
  | 3 =>
    match yyy.val with
    | 0 => some (.lrJp imm16)
    | 1 => some (decodePrefixed b1)
    | 6 => some .lrDi
    | 7 => some .lrEi
    | _ => none
  | 4 =>
    match yyy.val with
    | 0 | 1 | 2 | 3 => some (.lrCallCc (fieldCc b0) imm16)
    | _ => none
  | 5 =>
    match yyy.val with
    | 1 => some (.lrCall imm16)
    | 3 | 5 | 7 => none
    | _ => some (.lrPush (stackPairOfCode pp))
  | 6 => some (decodeAluImm yyy.val b1)
  | _ => some (.lrRst yyy)

/-- The base opcode map of variant LR (R110) on the first byte `b0` and the bytes `b1`, `b2` after it
(R107); a 16-bit immediate is `{b2, b1}` (R108). Bytes beyond the instruction's length do not matter. -/
def decodeBytes (b0 b1 b2 : Byte) : Option Instr :=
  match fieldXx b0 with
  | 0 => some (decodeQuadrant0 b0 b1 (b2 ++ b1))
  | 1 => some (decodeQuadrant1 b0)
  | 2 => some (decodeAlu (fieldYyy b0).val (fieldZzz b0))
  | _ => decodeQuadrant3 b0 b1 (b2 ++ b1)

/-! ## Both variants -/

/-- Why bytes are no instruction. -/
inductive Reject where
  /-- fewer bytes than the instruction needs (no fetch of the machine gives so few) -/
  | truncated
  /-- an unassigned word of variant C8 (R104) -/
  | unassignedWord (w : Word)
  /-- an unassigned first byte of variant LR (R113) -/
  | unassignedByte (b0 : Byte)
  deriving DecidableEq, Repr

/-- Decode a word of variant C8: the first byte is the most significant (R76, R101). -/
def decodeC8 : List Byte → Except Reject (Instr × List Byte)
  | b0 :: b1 :: rest =>
    match decodeWord (b0 ++ b1) with
    | some i => .ok (i, rest)
    | none => .error (.unassignedWord (b0 ++ b1))
  | _ => .error .truncated

/-- Decode an instruction of variant LR (R110 to R113). -/
def decodeLr : List Byte → Except Reject (Instr × List Byte)
  | b0 :: rest =>
    if b0 ∈ unassignedBytes then .error (.unassignedByte b0)
    else if rest.length + 1 < lengthByFirst b0 then .error .truncated
    else
      match decodeBytes b0 (rest.getD 0 0#8) (rest.getD 1 0#8) with
      | some i => .ok (i, rest.drop (lengthByFirst b0 - 1))
      | none => .error (.unassignedByte b0)
  | [] => .error .truncated

/-- Decode the instruction at the head of a list of bytes, and the bytes after it (R100, R116). The
variant is configuration (R1): no state changes how bytes decode (R100). -/
def decode (sys : System) (bytes : List Byte) : Except Reject (Instr × List Byte) :=
  match sys with
  | .c8 => decodeC8 bytes
  | .lr => decodeLr bytes

/-! ## The words of the opcode table -/

/-- The bytes of an instruction whose bits are `w`, numbered as the opcode table numbers them, with
`nbits` bits given. A row of variant C8 gives the 16 bits of its word, most significant byte first
(R76, R118); a row of variant LR gives the 8 bits of its first byte, and the bytes after it count on from
bit 8 (R118). Three bytes are laid out, the longest instruction of variant LR (R100). DESIGN CHOICE (log
15): 16 bits mean a word of variant C8. -/
def tableBytes (nbits w : Nat) : List Byte :=
  if nbits = 16 then [BitVec.ofNat 8 (w / 256), BitVec.ofNat 8 w]
  else [BitVec.ofNat 8 w, BitVec.ofNat 8 (w / 256), BitVec.ofNat 8 (w / 65536)]

/-- The variant whose rows have `nbits` bits (log 15). -/
def tableSystem (nbits : Nat) : System :=
  if nbits = 16 then .c8 else .lr

/-- The instruction the decoder reads from a word of the opcode table. -/
def decodeTableWord (nbits w : Nat) : Option Instr :=
  match decode (tableSystem nbits) (tableBytes nbits w) with
  | .ok (i, _) => some i
  | .error _ => none

/-! ## Encoding -/

/-- The two bytes of a word of variant C8, most significant first (R76). -/
def wordBytes (w : Word) : List Byte :=
  [w.extractLsb' 8 8, w.extractLsb' 0 8]

/-- Format `C8-NNN` (R102). -/
def formNnn (op : BitVec 4) (nnn : BitVec 12) : List Byte :=
  wordBytes (op ++ nnn)

/-- Formats `C8-XKK` and `C8-X` (R102). -/
def formXkk (op : BitVec 4) (x : VReg) (kk : Byte) : List Byte :=
  wordBytes (op ++ (BitVec.ofFin x : BitVec 4) ++ kk)

/-- Formats `C8-XY` and `C8-XYN` (R102). -/
def formXyn (op : BitVec 4) (x y n : Fin 16) : List Byte :=
  wordBytes (op ++ (BitVec.ofFin x : BitVec 4) ++ (BitVec.ofFin y : BitVec 4) ++ (BitVec.ofFin n : BitVec 4))

/-- A first byte from its pattern's fixed bits and the value of its fields (R106). -/
def opByte (fixed fields : Nat) : Byte :=
  BitVec.ofNat 8 (fixed + fields)

/-- Format `LR-3` (R107): the low byte of the immediate first. -/
def form3 (b0 : Byte) (imm : Word) : List Byte :=
  [b0, imm.extractLsb' 0 8, imm.extractLsb' 8 8]

/-- Format `LR-CB` (R107). -/
def formCb (fixed fields : Nat) : List Byte :=
  [0xCB#8, opByte fixed fields]

/-- The bytes of an instruction, from the patterns of its row. -/
def encode : Instr → List Byte
  -- variant C8 (R103)
  | .c8Cls => [0x00#8, 0xE0#8]
  | .c8Ret => [0x00#8, 0xEE#8]
  | .c8Sys nnn => formNnn 0x0#4 nnn
  | .c8Jp nnn => formNnn 0x1#4 nnn
  | .c8Call nnn => formNnn 0x2#4 nnn
  | .c8SeImm x kk => formXkk 0x3#4 x kk
  | .c8SneImm x kk => formXkk 0x4#4 x kk
  | .c8SeReg x y => formXyn 0x5#4 x y 0x0
  | .c8LdImm x kk => formXkk 0x6#4 x kk
  | .c8AddImm x kk => formXkk 0x7#4 x kk
  | .c8LdReg x y => formXyn 0x8#4 x y 0x0
  | .c8Or x y => formXyn 0x8#4 x y 0x1
  | .c8And x y => formXyn 0x8#4 x y 0x2
  | .c8Xor x y => formXyn 0x8#4 x y 0x3
  | .c8AddReg x y => formXyn 0x8#4 x y 0x4
  | .c8Sub x y => formXyn 0x8#4 x y 0x5
  | .c8Shr x y => formXyn 0x8#4 x y 0x6
  | .c8Subn x y => formXyn 0x8#4 x y 0x7
  | .c8Shl x y => formXyn 0x8#4 x y 0xE
  | .c8SneReg x y => formXyn 0x9#4 x y 0x0
  | .c8LdI nnn => formNnn 0xA#4 nnn
  | .c8JpV0 nnn => formNnn 0xB#4 nnn
  | .c8Rnd x kk => formXkk 0xC#4 x kk
  | .c8Drw x y n => formXyn 0xD#4 x y n
  | .c8Skp x => formXkk 0xE#4 x 0x9E#8
  | .c8Sknp x => formXkk 0xE#4 x 0xA1#8
  | .c8LdVxDt x => formXkk 0xF#4 x 0x07#8
  | .c8LdVxK x => formXkk 0xF#4 x 0x0A#8
  | .c8LdDtVx x => formXkk 0xF#4 x 0x15#8
  | .c8LdStVx x => formXkk 0xF#4 x 0x18#8
  | .c8AddI x => formXkk 0xF#4 x 0x1E#8
  | .c8LdF x => formXkk 0xF#4 x 0x29#8
  | .c8LdB x => formXkk 0xF#4 x 0x33#8
  | .c8StoreRegs x => formXkk 0xF#4 x 0x55#8
  | .c8LoadRegs x => formXkk 0xF#4 x 0x65#8
  -- variant LR, 8-bit loads (R220 to R238)
  | .lrLdRR dst src => [opByte 0x40 (8 * regCode dst + regCode src)]
  | .lrLdRM dst => [opByte 0x46 (8 * regCode dst)]
  | .lrLdMR src => [opByte 0x70 (regCode src)]
  | .lrLdRN dst d8 => [opByte 0x06 (8 * regCode dst), d8]
  | .lrLdMN d8 => [0x36#8, d8]
  | .lrLdABc => [0x0A#8]
  | .lrLdADe => [0x1A#8]
  | .lrLdBcA => [0x02#8]
  | .lrLdDeA => [0x12#8]
  | .lrLdAA16 a16 => form3 0xFA#8 a16
  | .lrLdA16A a16 => form3 0xEA#8 a16
  | .lrLdhAA8 a8 => [0xF0#8, a8]
  | .lrLdhA8A a8 => [0xE0#8, a8]
  | .lrLdAC => [0xF2#8]
  | .lrLdCA => [0xE2#8]
  | .lrLdHliA => [0x22#8]
  | .lrLdAHli => [0x2A#8]
  | .lrLdHldA => [0x32#8]
  | .lrLdAHld => [0x3A#8]
  -- 16-bit loads and stack (R250 to R256)
  | .lrLdPairN p d16 => form3 (opByte 0x01 (16 * pairCode p)) d16
  | .lrLdA16Sp a16 => form3 0x08#8 a16
  | .lrLdSpHl => [0xF9#8]
  | .lrLdHlSp e => [0xF8#8, e]
  | .lrPush p => [opByte 0xC5 (16 * stackPairCode p)]
  | .lrPop p => [opByte 0xC1 (16 * stackPairCode p)]
  | .lrPopAf => [0xF1#8]
  -- 8-bit arithmetic and logic (R266 to R279)
  | .lrAddR r => [opByte 0x80 (regCode r)]
  | .lrAddM => [0x86#8]
  | .lrAddN d8 => [0xC6#8, d8]
  | .lrAdcR r => [opByte 0x88 (regCode r)]
  | .lrAdcM => [0x8E#8]
  | .lrAdcN d8 => [0xCE#8, d8]
  | .lrSubR r => [opByte 0x90 (regCode r)]
  | .lrSubM => [0x96#8]
  | .lrSubN d8 => [0xD6#8, d8]
  | .lrSbcR r => [opByte 0x98 (regCode r)]
  | .lrSbcM => [0x9E#8]
  | .lrSbcN d8 => [0xDE#8, d8]
  | .lrAndR r => [opByte 0xA0 (regCode r)]
  | .lrAndM => [0xA6#8]
  | .lrAndN d8 => [0xE6#8, d8]
  | .lrXorR r => [opByte 0xA8 (regCode r)]
  | .lrXorM => [0xAE#8]
  | .lrXorN d8 => [0xEE#8, d8]
  | .lrOrR r => [opByte 0xB0 (regCode r)]
  | .lrOrM => [0xB6#8]
  | .lrOrN d8 => [0xF6#8, d8]
  | .lrCpR r => [opByte 0xB8 (regCode r)]
  | .lrCpM => [0xBE#8]
  | .lrCpN d8 => [0xFE#8, d8]
  | .lrIncR r => [opByte 0x04 (8 * regCode r)]
  | .lrIncM => [0x34#8]
  | .lrDecR r => [opByte 0x05 (8 * regCode r)]
  | .lrDecM => [0x35#8]
  | .lrDaa => [0x27#8]
  | .lrCpl => [0x2F#8]
  | .lrScf => [0x37#8]
  | .lrCcf => [0x3F#8]
  -- 16-bit arithmetic (R300 to R303)
  | .lrAddHl p => [opByte 0x09 (16 * pairCode p)]
  | .lrIncPair p => [opByte 0x03 (16 * pairCode p)]
  | .lrDecPair p => [opByte 0x0B (16 * pairCode p)]
  | .lrAddSp e => [0xE8#8, e]
  -- rotates, shifts, bits (R310 to R324)
  | .lrRlca => [0x07#8]
  | .lrRrca => [0x0F#8]
  | .lrRla => [0x17#8]
  | .lrRra => [0x1F#8]
  | .lrRlcR r => formCb 0x00 (regCode r)
  | .lrRlcM => formCb 0x06 0
  | .lrRrcR r => formCb 0x08 (regCode r)
  | .lrRrcM => formCb 0x0E 0
  | .lrRlR r => formCb 0x10 (regCode r)
  | .lrRlM => formCb 0x16 0
  | .lrRrR r => formCb 0x18 (regCode r)
  | .lrRrM => formCb 0x1E 0
  | .lrSlaR r => formCb 0x20 (regCode r)
  | .lrSlaM => formCb 0x26 0
  | .lrSraR r => formCb 0x28 (regCode r)
  | .lrSraM => formCb 0x2E 0
  | .lrSwapR r => formCb 0x30 (regCode r)
  | .lrSwapM => formCb 0x36 0
  | .lrSrlR r => formCb 0x38 (regCode r)
  | .lrSrlM => formCb 0x3E 0
  | .lrBitR b r => formCb 0x40 (8 * b.val + regCode r)
  | .lrBitM b => formCb 0x46 (8 * b.val)
  | .lrResR b r => formCb 0x80 (8 * b.val + regCode r)
  | .lrResM b => formCb 0x86 (8 * b.val)
  | .lrSetR b r => formCb 0xC0 (8 * b.val + regCode r)
  | .lrSetM b => formCb 0xC6 (8 * b.val)
  | .lrPrefixCb b1 => [0xCB#8, b1]
  -- control (R340 to R362)
  | .lrNop => [0x00#8]
  | .lrJp a16 => form3 0xC3#8 a16
  | .lrJpCc cc a16 => form3 (opByte 0xC2 (8 * condCode cc)) a16
  | .lrJpHl => [0xE9#8]
  | .lrJr e => [0x18#8, e]
  | .lrJrCc cc e => [opByte 0x20 (8 * condCode cc), e]
  | .lrCall a16 => form3 0xCD#8 a16
  | .lrCallCc cc a16 => form3 (opByte 0xC4 (8 * condCode cc)) a16
  | .lrRet => [0xC9#8]
  | .lrRetCc cc => [opByte 0xC0 (8 * condCode cc)]
  | .lrReti => [0xD9#8]
  | .lrRst n => [opByte 0xC7 (8 * n.val)]
  | .lrDi => [0xF3#8]
  | .lrEi => [0xFB#8]
  | .lrHalt => [0x76#8]
  | .lrStop b1 => [0x10#8, b1]

end Sys2Proof
end

