-- ==== Sys2Proof/Machine/State.lean ====
section
/-! DEFINITION. The state of an instance (R20) as plain data, with its reset values (R65). -/

namespace Sys2Proof.Machine

/-- The failures of the block with the info each records (R370), in the order of the spec's ordinals. -/
inductive Failure where
  /-- `UnrecognizedOpcode(pc, bytes)` (R371) -/
  | unrecognizedOpcode (pc : Word) (bytes : List Byte)
  /-- `InvalidOpcodeUsage(value)` (R372) -/
  | invalidOpcodeUsage (value : Byte)
  /-- `InvalidStackAccess(SP)`, `SP` before the access (R373) -/
  | invalidStackAccess (sp : Nat)
  /-- `InvalidMemoryAccess(addr)`, the unreduced address (R374) -/
  | invalidMemoryAccess (addr : Nat)
  /-- `InvalidRegisterIndex(index)`: never raised (R375) -/
  | invalidRegisterIndex (index : Nat)
  /-- `AluError`: never raised (R376) -/
  | aluError
  /-- `Custom(text)`: never raised (R377) -/
  | custom (text : String)
  /-- `InvalidRom(length)`: raised by `LOAD` only (R378) -/
  | invalidRom (length : Nat)
  /-- `RomIoError`: never raised by the block (R379) -/
  | romIoError
  deriving DecidableEq, Repr

/-- The execution status (R60). -/
inductive Status where
  | running
  | halted
  | stopped
  | crashed (f : Failure)
  deriving DecidableEq, Repr

/-- What `last_opcode` holds after a fetch (R62, R141): the address of the first byte and the bytes. -/
structure Fetched where
  pc : Word
  bytes : List Byte
  deriving DecidableEq, Repr

/-- Memory: the listed cells, addresses strictly rising, none equal to what an unlisted address reads as
(`Sys2Proof.Machine.unlistedC8`, `Sys2Proof.Machine.unlistedLr`). -/
abbrev Memory := List Host.Cell

/-- The framebuffer `Fb[y][x]` (R90): 32 rows of 64 pixels, row 0 on top, column 0 left. -/
abbrev Framebuffer := Vector (Vector Bool 64) 32

/-- The state tuple of variant C8 (R20) less `status` and `last_opcode`, which both variants share. -/
structure C8State where
  /-- `V[0..15]` (R21); `V[15]` is VF (R22) -/
  v : Vector Byte 16
  /-- `I` (R23) -/
  i : Word
  /-- `pc` (R24) -/
  pc : Word
  /-- `SP`, the number of stack entries in use (R25) -/
  sp : Fin 17
  /-- `stack[0..15]` (R25) -/
  stack : Vector Word 16
  /-- `DT` (R26) -/
  dt : Byte
  /-- `ST` (R27) -/
  st : Byte
  /-- `mem[0..4095]` (R70) -/
  mem : Memory
  /-- `Fb[0..31][0..63]` (R90) -/
  fb : Framebuffer
  /-- `keys[0..15]` (R28) -/
  keys : Vector Bool 16
  /-- `wait_reg` (R29) -/
  waitReg : VReg
  deriving DecidableEq, Repr

/-- The state tuple of variant LR (R20) less `status` and `last_opcode`. `IE` and `IF` are bytes of `mem`
(R47). -/
structure LrState where
  /-- `A` (R40) -/
  a : Byte
  /-- `F`: Z, N, H, C in bits 3..0 (R43) -/
  f : Byte
  /-- `B` (R40) -/
  b : Byte
  /-- `C` (R40) -/
  c : Byte
  /-- `D` (R40) -/
  d : Byte
  /-- `E` (R40) -/
  e : Byte
  /-- `H` (R40) -/
  h : Byte
  /-- `L` (R40) -/
  l : Byte
  /-- `SP` (R44) -/
  sp : Word
  /-- `pc` (R45) -/
  pc : Word
  /-- `IME` (R46) -/
  ime : Bool
  /-- `ei_pending` (R48) -/
  eiPending : Bool
  /-- `skip_next` (R49) -/
  skipNext : Bool
  /-- `mem[0..65535]` (R71) -/
  mem : Memory
  /-- `buttons[0..7]` (R50) -/
  buttons : Vector Bool 8
  deriving DecidableEq, Repr

/-- What `SNAPSHOT` returns (R410): a copy of the whole state tuple of the instance's variant. -/
inductive Snapshot where
  | c8 (tuple : C8State) (status : Status) (lastOpcode : Option Fetched)
  | lr (tuple : LrState) (status : Status) (lastOpcode : Option Fetched)
  deriving DecidableEq, Repr

/-- What a command answers (R5). -/
inductive Response where
  /-- nothing (`RESET`, `UPDATE_TIMERS`, `SET_INPUT`, `RAISE_IRQ`) -/
  | none
  /-- `Ok` of a `LOAD` (R424) -/
  | loaded
  /-- `Ok(n)` of a `STEP`: cycles consumed (R140) -/
  | cycles (n : Nat)
  /-- `Err(f)` of a `STEP` or `LOAD` (R370) -/
  | err (f : Failure)
  /-- the resolution and the pixels, row-major, of a `READ_FRAMEBUFFER` (R91) -/
  | pixels (width height : Nat) (buffer : List (BitVec 32))
  /-- the copy of a `SNAPSHOT` (R410) -/
  | snapshot (copy : Snapshot)
  deriving DecidableEq, Repr

/-- The state of an instance. An instance is of the variant `config.system` (R1), and the tuple of the
other variant is inert: DESIGN CHOICE, safe (log 1). -/
structure State where
  /-- the configuration (R7): no command changes it -/
  config : Configuration
  /-- `status` (R60) -/
  status : Status
  /-- `last_opcode`, none after reset (R62) -/
  lastOpcode : Option Fetched
  /-- the tuple of variant C8 -/
  c8 : C8State
  /-- the tuple of variant LR -/
  lr : LrState
  /-- the model's own: the answer of the latest command (log 6) -/
  response : Response
  /-- the model's own: how many free bytes `RND` has drawn (log 5) -/
  draws : Nat
  deriving DecidableEq, Repr

/-- Why the machine stops. There is no such reason: the block "never panics or aborts" (R138), and a
failure of the spec is a next state whose `status` is `Crashed` (R131, R138, log 7). Safe. -/
inductive Fault where
  deriving DecidableEq, Repr

/-- Why an input has no meaning. -/
inductive Refusal where
  /-- raised by an arm of `exec` for an instruction without a meaning: no arm raises it. Safe. -/
  | notModelled (mnemonic : String)
  /-- raised by `SET_INPUT` with a vector of the wrong length: "A vector of another length is outside the
  interface (refused)" (R404, R405, U12). Safe. -/
  | inputLength (length : Nat)
  /-- raised by `RAISE_IRQ` on variant C8 or with `k` outside 0..4: "the command has no meaning (refused)"
  (R387, U12). Safe. -/
  | noSuchIrq (k : Nat)
  /-- raised by `READ_FRAMEBUFFER` on variant LR: "gives the command no meaning for variant LR (refused)"
  (R92, U12). Safe. -/
  | noFramebuffer
  deriving DecidableEq, Repr

/-- The C8 tuple after `RESET` (R65). -/
def C8State.reset : C8State where
  v := Vector.replicate 16 0x00#8
  i := 0x0000#16
  pc := 0x0200#16
  sp := 0
  stack := Vector.replicate 16 0x0000#16
  dt := 0x00#8
  st := 0x00#8
  mem := []
  fb := Vector.replicate 32 (Vector.replicate 64 false)
  keys := Vector.replicate 16 false
  waitReg := 0

/-- The LR tuple after `RESET` (R65). -/
def LrState.reset : LrState where
  a := 0x01#8
  f := 0x0B#8
  b := 0x00#8
  c := 0x13#8
  d := 0x00#8
  e := 0xD8#8
  h := 0x01#8
  l := 0x4D#8
  sp := 0xFFFE#16
  pc := 0x0100#16
  ime := false
  eiPending := false
  skipNext := false
  mem := []
  buttons := Vector.replicate 8 false

/-- A freshly constructed instance of a configuration: the state `RESET` gives (R420). -/
def State.resetOf (config : Configuration) : State where
  config := config
  status := .running
  lastOpcode := none
  c8 := C8State.reset
  lr := LrState.reset
  response := .none
  draws := 0

/-- The machine right after reset. R1 leaves `SYSTEM` to the builder of the instance: LR here, DESIGN
CHOICE (log 2); `READONLY_RANGES` has its default, empty (R79). -/
def State.reset : State :=
  State.resetOf { system := .lr, readOnly := [] }

end Sys2Proof.Machine
end

