-- ==== Sys2Proof/Machine/Ops.lean ====
section
/-! DEFINITION. The named operations over the state: memory and its two sets of access primitives
(R72 to R79), the stacks (R80 to R83), raising a failure (R138), taking an interrupt and returning from
one (R350, R385), the wake checks (R395, R396) and the fetch (R133, R134). -/

namespace Sys2Proof.Machine

/-- What a step or an instruction answers. -/
abbrev Out := Host.Outcome State Fault Refusal

/-! ## Named updates -/

/-- Record the answer of a command (log 6). -/
def State.respond (s : State) (r : Response) : State :=
  { s with response := r }

/-- Write `status` (R60). -/
def State.setStatus (s : State) (st : Status) : State :=
  { s with status := st }

/-- Write `V[x]` (R21). -/
def State.setV (s : State) (x : VReg) (v : Byte) : State :=
  { s with c8 := { s.c8 with v := s.c8.v.set x.val v x.isLt } }

/-- Write `I` (R23). -/
def State.setI (s : State) (v : Word) : State :=
  { s with c8 := { s.c8 with i := v } }

/-- Write `pc` of variant C8 (R24). -/
def State.setC8Pc (s : State) (v : Word) : State :=
  { s with c8 := { s.c8 with pc := v } }

/-- Write `SP` of variant C8 (R25). -/
def State.setC8Sp (s : State) (v : Fin 17) : State :=
  { s with c8 := { s.c8 with sp := v } }

/-- Write `stack[k]` (R25). -/
def State.setStack (s : State) (k : Fin 16) (v : Word) : State :=
  { s with c8 := { s.c8 with stack := s.c8.stack.set k.val v k.isLt } }

/-- Write `DT` (R26). -/
def State.setDt (s : State) (v : Byte) : State :=
  { s with c8 := { s.c8 with dt := v } }

/-- Write `ST` (R27). -/
def State.setSt (s : State) (v : Byte) : State :=
  { s with c8 := { s.c8 with st := v } }

/-- Replace `mem` of variant C8. -/
def State.setC8Mem (s : State) (m : Memory) : State :=
  { s with c8 := { s.c8 with mem := m } }

/-- Replace the framebuffer (R90). -/
def State.setFb (s : State) (fb : Framebuffer) : State :=
  { s with c8 := { s.c8 with fb := fb } }

/-- Write the input vector of variant C8 (R28). -/
def State.setKeys (s : State) (k : Vector Bool 16) : State :=
  { s with c8 := { s.c8 with keys := k } }

/-- Write `wait_reg` (R29). -/
def State.setWaitReg (s : State) (x : VReg) : State :=
  { s with c8 := { s.c8 with waitReg := x } }

/-- Write `SP` of variant LR (R44). -/
def State.setSp (s : State) (v : Word) : State :=
  { s with lr := { s.lr with sp := v } }

/-- Write `pc` of variant LR (R45). -/
def State.setLrPc (s : State) (v : Word) : State :=
  { s with lr := { s.lr with pc := v } }

/-- Write `IME` (R46). -/
def State.setIme (s : State) (b : Bool) : State :=
  { s with lr := { s.lr with ime := b } }

/-- Write `ei_pending` (R48). -/
def State.setEiPending (s : State) (b : Bool) : State :=
  { s with lr := { s.lr with eiPending := b } }

/-- Write `skip_next` (R49). -/
def State.setSkipNext (s : State) (b : Bool) : State :=
  { s with lr := { s.lr with skipNext := b } }

/-- Replace `mem` of variant LR. -/
def State.setLrMem (s : State) (m : Memory) : State :=
  { s with lr := { s.lr with mem := m } }

/-- Write the input vector of variant LR (R50). -/
def State.setButtons (s : State) (b : Vector Bool 8) : State :=
  { s with lr := { s.lr with buttons := b } }

/-- `last_opcode <- (pc, bytes)` (R141). -/
def State.recordFetch (s : State) (pc : Word) (bytes : List Byte) : State :=
  { s with lastOpcode := some ⟨pc, bytes⟩ }

/-- Count one draw of `RandByte` (R183, log 5). -/
def State.countDraw (s : State) : State :=
  { s with draws := s.draws + 1 }

/-- The program counter of the instance. -/
def State.pc (s : State) : Word :=
  match s.config.system with
  | .c8 => s.c8.pc
  | .lr => s.lr.pc

/-- The program counter advance of variant C8 (R135). -/
def State.advanceC8 (s : State) : State :=
  s.setC8Pc (s.c8.pc + 2#16)

/-- The program counter advance of variant LR past an instruction of `len` bytes (R135). -/
def State.advanceLr (s : State) (len : Nat) : State :=
  s.setLrPc (s.lr.pc + BitVec.ofNat 16 len)

/-! ## Failures and results -/

/-- Take a failure (R138): nothing of the step is kept in `s`, the status becomes `Crashed(f)` and the
answer is `Err(f)`. -/
def State.crash (s : State) (f : Failure) : State :=
  { s with status := .crashed f, response := .err f }

/-- The end of an instruction started in `s` (R137, R138): `Ok(cycles)` in the state it reached, or the
failure with every change discarded. -/
def finish (s : State) (cycles : Nat) (r : Except Failure State) : Out :=
  match r with
  | .ok t => .next (t.respond (.cycles cycles))
  | .error f => .next (s.crash f)

/-- Run an operation of variant C8: the pc advance, the operation, one cycle (R135, R137, R140). -/
def runC8 (op : State → Except Failure State) (s : State) : Out :=
  finish s 1 (op s.advanceC8)

/-- Run an operation of variant LR of `len` bytes and `cycles` clock cycles (R135, R137, R140). -/
def runLr (len cycles : Nat) (op : State → Except Failure State) (s : State) : Out :=
  finish s cycles (op (s.advanceLr len))

/-! ## Memory -/

/-- A glyph table row by row: the font (R94). -/
def fontBytes : List Byte :=
  [0xF0#8, 0x90#8, 0x90#8, 0x90#8, 0xF0#8] ++ [0x20#8, 0x60#8, 0x20#8, 0x20#8, 0x70#8] ++
  [0xF0#8, 0x10#8, 0xF0#8, 0x80#8, 0xF0#8] ++ [0xF0#8, 0x10#8, 0xF0#8, 0x10#8, 0xF0#8] ++
  [0x90#8, 0x90#8, 0xF0#8, 0x10#8, 0x10#8] ++ [0xF0#8, 0x80#8, 0xF0#8, 0x10#8, 0xF0#8] ++
  [0xF0#8, 0x80#8, 0xF0#8, 0x90#8, 0xF0#8] ++ [0xF0#8, 0x10#8, 0x20#8, 0x40#8, 0x40#8] ++
  [0xF0#8, 0x90#8, 0xF0#8, 0x90#8, 0xF0#8] ++ [0xF0#8, 0x90#8, 0xF0#8, 0x10#8, 0xF0#8] ++
  [0xF0#8, 0x90#8, 0xF0#8, 0x90#8, 0x90#8] ++ [0xE0#8, 0x90#8, 0xE0#8, 0x90#8, 0xE0#8] ++
  [0xF0#8, 0x80#8, 0x80#8, 0x80#8, 0xF0#8] ++ [0xE0#8, 0x90#8, 0x90#8, 0x90#8, 0xE0#8] ++
  [0xF0#8, 0x80#8, 0xF0#8, 0x80#8, 0xF0#8] ++ [0xF0#8, 0x80#8, 0xF0#8, 0x80#8, 0x80#8]

/-- `FONT_BASE` (R7, R94). -/
def fontBase : Nat := 0x050

/-- What an unlisted address of variant C8 reads as: the reset contents, the font at 0x050..0x09F and 0
elsewhere (R65, R94, R421). -/
def unlistedC8 (a : Nat) : Byte :=
  if a < fontBase then 0x00#8 else fontBytes.getD (a - fontBase) 0x00#8

/-- What an unlisted address of variant LR reads as: 0 (R65, R421). -/
def unlistedLr (_ : Nat) : Byte := 0x00#8

/-- `MEM_SIZE` (R7). -/
def memSize : System → Nat
  | .c8 => 4096
  | .lr => 65536

/-- The byte at an address, `unlisted a` where no cell of it is listed. -/
def readCell (unlisted : Nat → Byte) : Memory → Nat → Byte
  | [], a => unlisted a
  | c :: m, a => if c.1 = a then c.2 else readCell unlisted m a

/-- Insert a cell before the first cell of a greater address. -/
def insertCell (a : Nat) (v : Byte) : Memory → Memory
  | [] => [(a, v)]
  | c :: m => if a < c.1 then (a, v) :: c :: m else c :: insertCell a v m

/-- Store a byte: the value an unlisted address reads as is stored as no cell. -/
def writeCell (unlisted : Nat → Byte) (m : Memory) (a : Nat) (v : Byte) : Memory :=
  let rest := m.filter (fun c => c.1 != a)
  if v = unlisted a then rest else insertCell a v rest

/-- Store bytes at consecutive addresses, the first at `a`. -/
def writeCells (unlisted : Nat → Byte) (m : Memory) (a : Nat) : List Byte → Memory
  | [] => m
  | v :: vs => writeCells unlisted (writeCell unlisted m a v) (a + 1) vs

/-- The canonical form of a memory of `size` bytes: addresses strictly rising and below `size`, no cell
equal to what an unlisted address reads as. -/
abbrev MemoryWf (unlisted : Nat → Byte) (size : Nat) (m : Memory) : Prop :=
  m.Pairwise (fun p q => p.1 < q.1) ∧ ∀ c ∈ m, c.2 ≠ unlisted c.1 ∧ c.1 < size

/-- Does an address lie in a range of `READONLY_RANGES` (R79)? -/
def State.readOnlyAt (s : State) (a : Nat) : Bool :=
  s.config.readOnly.any (fun r => decide (r.first ≤ a) && decide (a ≤ r.last))

/-! ### Variant C8 (R72, R73) -/

/-- `mem[a]` of variant C8. -/
def State.c8Byte (s : State) (a : Nat) : Byte :=
  readCell unlistedC8 s.c8.mem a

/-- Is a read of address `a` refused: is it outside `mem` (R72)? -/
def c8ReadFails (a : Nat) : Bool :=
  decide (0xFFF < a)

/-- Is a write of address `a` refused: outside `mem` or protected (R73)? -/
def State.c8WriteFails (s : State) (a : Nat) : Bool :=
  c8ReadFails a || s.readOnlyAt a

/-- `MemRead(a + k, 1)` for `k` in `0..n-1`, in that order (R72): the bytes, or `InvalidMemoryAccess` of
the first address that fails. -/
def State.c8Read (s : State) (a n : Nat) : Except Failure (List Byte) :=
  match (List.range n).find? (fun k => c8ReadFails (a + k)) with
  | some k => .error (.invalidMemoryAccess (a + k))
  | none => .ok ((List.range n).map (fun k => s.c8Byte (a + k)))

/-- `MemWrite(a + k, 1, vs[k])` in order (R73), all checked before the first is made (R206, R208): the new
state, or `InvalidMemoryAccess` of the first address that fails. -/
def State.c8Write (s : State) (a : Nat) (vs : List Byte) : Except Failure State :=
  match (List.range vs.length).find? (fun k => s.c8WriteFails (a + k)) with
  | some k => .error (.invalidMemoryAccess (a + k))
  | none => .ok (s.setC8Mem (writeCells unlistedC8 s.c8.mem a vs))

/-! ### Variant LR (R74, R75) -/

/-- `MemRead(a, 1)` of variant LR: never fails; an address is 16 bits, so it has been reduced modulo
65536 (R74). -/
def State.lrRead (s : State) (a : Word) : Byte :=
  readCell unlistedLr s.lr.mem a.toNat

/-- `MemRead(a, 2)` of variant LR: little-endian, `a + 1` wrapping (R74, R76). -/
def State.lrRead16 (s : State) (a : Word) : Word :=
  s.lrRead (a + 1#16) ++ s.lrRead a

/-- Store a byte without the protection check: what `LOAD` and the host's interrupt requests do
(R387, R405, R424), and the second half of `MemWrite`. -/
def State.lrPoke (s : State) (a : Word) (v : Byte) : State :=
  s.setLrMem (writeCell unlistedLr s.lr.mem a.toNat v)

/-- `MemWrite(a, 1, v)` of variant LR (R75). -/
def State.lrWrite (s : State) (a : Word) (v : Byte) : Except Failure State :=
  if s.readOnlyAt a.toNat then .error (.invalidMemoryAccess a.toNat) else .ok (s.lrPoke a v)

/-- `MemWrite(a, 2, v)` of variant LR (R75): the low byte at `a`, then the high byte at `a + 1`. DESIGN CHOICE
(log 24), unsafe: where both bytes are protected the failure names `a`, in the order of R75, also for a push,
whose bytes R254 lists the other way round. -/
def State.lrWrite16 (s : State) (a : Word) (v : Word) : Except Failure State :=
  (s.lrWrite a (v.extractLsb' 0 8)).bind fun t => t.lrWrite (a + 1#16) (v.extractLsb' 8 8)

/-! ## Stacks -/

/-- Push of variant C8 (R80). -/
def State.push (s : State) (v : Word) : Except Failure State :=
  if h : s.c8.sp.val < 16 then
    .ok ((s.setStack ⟨s.c8.sp.val, h⟩ v).setC8Sp ⟨s.c8.sp.val + 1, by omega⟩)
  else .error (.invalidStackAccess s.c8.sp.val)

/-- Pop of variant C8 (R81): the value and the state after it; the popped cell keeps its value. -/
def State.pop (s : State) : Except Failure (Word × State) :=
  if h : s.c8.sp.val = 0 then .error (.invalidStackAccess s.c8.sp.val)
  else .ok (s.c8.stack[s.c8.sp.val - 1], s.setC8Sp ⟨s.c8.sp.val - 1, by omega⟩)

/-- `Push16` of variant LR (R82): the stack check comes before the protection check. -/
def State.push16 (s : State) (v : Word) : Except Failure State :=
  if s.lr.sp.toNat < 2 then .error (.invalidStackAccess s.lr.sp.toNat)
  else (s.setSp (s.lr.sp - 2#16)).lrWrite16 (s.lr.sp - 2#16) v

/-- `Pop16` of variant LR (R83): the value and the state after it. -/
def State.pop16 (s : State) : Except Failure (Word × State) :=
  if 0xFFFD < s.lr.sp.toNat then .error (.invalidStackAccess s.lr.sp.toNat)
  else .ok (s.lrRead16 s.lr.sp, s.setSp (s.lr.sp + 2#16))

/-! ## Interrupts of variant LR -/

/-- The address of `IE` (R47). -/
def ieAddr : Word := 0xFFFF#16

/-- The address of `IF` (R47). -/
def ifAddr : Word := 0xFF0F#16

/-- The sources both requested and enabled (R382, R383): only bits 4..0 take part (R47). -/
def State.pendingSources (s : State) : Byte :=
  s.lrRead ieAddr &&& s.lrRead ifAddr &&& 0x1F#8

/-- `pending` (R383). -/
def State.pending (s : State) : Bool :=
  s.pendingSources != 0x00#8

/-- The least source of a set of sources (R384). -/
def leastSource (m : Byte) : Option Nat :=
  (List.range 5).find? (fun k => m.getLsbD k)

/-- Is an interrupt dispatched in phase P4 (R385)? -/
def State.interruptDue (s : State) : Bool :=
  s.lr.ime && s.pending

/-- Dispatch of source `k` (R385): clear `IME` and bit `k` of `IF`, push the pc, go to the vector. -/
def State.enterInterrupt (s : State) (k : Nat) : Except Failure State :=
  ((s.setIme false).lrWrite ifAddr (s.lrRead ifAddr &&& ~~~(1#8 <<< k))).bind fun t =>
    (t.push16 t.lr.pc).map fun u => u.setLrPc (BitVec.ofNat 16 (0x0040 + 8 * k))

/-- Phase P4 where it dispatches: the least pending source (R384, R385); 20 cycles (R140). -/
def State.takeInterrupt (s : State) : Out :=
  match leastSource s.pendingSources with
  | some k => finish s 20 (s.enterInterrupt k)
  | none => finish s 20 (.ok s)

/-- The return from an interrupt, `RETI` (R350, R386): pop the pc and set `IME` at once. -/
def State.leaveInterrupt (s : State) : Except Failure State :=
  s.pop16.map fun p => (p.2.setLrPc p.1).setIme true

/-- Request source `k`: set bit `k` of `IF`, written directly (R387, R405). -/
def State.requestIrq (s : State) (k : Nat) : State :=
  s.lrPoke ifAddr (s.lrRead ifAddr ||| (1#8 <<< k))

/-- The EI commit, phase P5 (R132); variant LR only. -/
def State.commitEi (s : State) : State :=
  match s.config.system with
  | .c8 => s
  | .lr => if s.lr.eiPending then (s.setEiPending false).setIme true else s

/-! ## Wake checks -/

/-- The least held key (R395). -/
def leastKey (keys : Vector Bool 16) : Option VReg :=
  (List.finRange 16).find? (fun k => keys[k.val])

/-- The wake check of variant C8 (R395). -/
def State.wakeC8 (s : State) : State :=
  if s.status = .halted then
    match leastKey s.c8.keys with
    | some k => (s.setV s.c8.waitReg (BitVec.ofNat 8 k.val)).setStatus .running
    | none => s
  else s

/-- The wake check of variant LR (R396). -/
def State.wakeLr (s : State) : State :=
  if s.status = .halted ∧ s.pending = true then s.setStatus .running else s

/-- The wake check of the instance's variant (R395, R396), phase P2 of `STEP`. -/
def State.wakeCheck (s : State) : State :=
  match s.config.system with
  | .c8 => s.wakeC8
  | .lr => s.wakeLr

/-! ## Fetch -/

/-- The bytes of the instruction at `pc` (R133, R134): of variant C8 the two bytes of the word, or the
failure of the read; of variant LR as many as the first byte says (R111), addresses modulo 65536. -/
def State.fetchBytes (s : State) : Except Failure (List Byte) :=
  match s.config.system with
  | .c8 => s.c8Read s.c8.pc.toNat 2
  | .lr =>
    .ok ((List.range (lengthByFirst (s.lrRead s.lr.pc))).map
      (fun k => s.lrRead (s.lr.pc + BitVec.ofNat 16 k)))

/-- Place bytes where the instance fetches its next instruction, without any check (log 16). -/
def State.placeBytes (s : State) (bytes : List Byte) : State :=
  match s.config.system with
  | .c8 => s.setC8Mem (writeCells unlistedC8 s.c8.mem s.c8.pc.toNat bytes)
  | .lr => (bytes.zipIdx).foldl (fun t p => t.lrPoke (s.lr.pc + BitVec.ofNat 16 p.2) p.1) s

end Sys2Proof.Machine
end

