-- ==== Sys2Proof/Machine/Flags.lean ====
section
/-! DEFINITION. The flags of variant LR (R43) and every result with its flags: the 8-bit laws (R265), the
16-bit law (R304), increments, decimal adjust, rotates and shifts; and the sums of variant C8 (R176). -/

namespace Sys2Proof.Machine

/-! ## The flags register -/

/-- The four flags (R43). -/
structure Flags where
  z : Bool
  n : Bool
  h : Bool
  c : Bool
  deriving DecidableEq, Repr

/-- A bit as a byte. -/
def bitByte (b : Bool) : Byte :=
  if b then 0x01#8 else 0x00#8

/-- The byte of four flags: Z, N, H, C in bits 3, 2, 1, 0 (R43). -/
def flagByte (fl : Flags) : Byte :=
  (bitByte fl.z <<< 3) ||| (bitByte fl.n <<< 2) ||| (bitByte fl.h <<< 1) ||| bitByte fl.c

/-- `F` read as a register: bits 7..4 read 0 (R43). -/
def State.readF (s : State) : Byte :=
  s.lr.f &&& 0x0F#8

/-- `F` written as a register: bits 7..4 ignore the write (R43). -/
def State.writeF (s : State) (v : Byte) : State :=
  { s with lr := { s.lr with f := v &&& 0x0F#8 } }

/-- The flags as named conditions (R43). -/
def State.flags (s : State) : Flags :=
  { z := s.lr.f.getLsbD 3, n := s.lr.f.getLsbD 2, h := s.lr.f.getLsbD 1, c := s.lr.f.getLsbD 0 }

/-- Write the four flags. -/
def State.setFlags (s : State) (fl : Flags) : State :=
  s.writeF (flagByte fl)

/-! ## 8-bit arithmetic of variant LR (R265) -/

/-- Addition with carry-in (R265). -/
def add8 (a b : Byte) (cin : Bool) : Byte × Flags :=
  let s := a.toNat + b.toNat + cin.toNat
  let r := BitVec.ofNat 8 s
  (r, { z := decide (r = 0x00#8), n := false,
        h := decide (a.toNat % 16 + b.toNat % 16 + cin.toNat > 0xF), c := decide (s > 0xFF) })

/-- Subtraction with borrow-in (R265): the exact difference may be negative. -/
def sub8 (a b : Byte) (cin : Bool) : Byte × Flags :=
  let d : Int := (a.toNat : Int) - b.toNat - cin.toNat
  let r := BitVec.ofInt 8 d
  (r, { z := decide (r = 0x00#8), n := true,
        h := decide (((a.toNat % 16 : Nat) : Int) - (b.toNat % 16 : Nat) - cin.toNat < 0), c := decide (d < 0) })

/-- `AND` (R270). -/
def and8 (a b : Byte) : Byte × Flags :=
  (a &&& b, { z := decide (a &&& b = 0x00#8), n := false, h := true, c := false })

/-- `XOR` (R271). -/
def xor8 (a b : Byte) : Byte × Flags :=
  (a ^^^ b, { z := decide (a ^^^ b = 0x00#8), n := false, h := false, c := false })

/-- `OR` (R272). -/
def or8 (a b : Byte) : Byte × Flags :=
  (a ||| b, { z := decide (a ||| b = 0x00#8), n := false, h := false, c := false })

/-- `INC` (R274): C is the old C. -/
def inc8 (v : Byte) (old : Flags) : Byte × Flags :=
  (v + 0x01#8, { z := decide (v = 0xFF#8), n := false, h := decide (v &&& 0x0F#8 = 0x0F#8), c := old.c })

/-- `DEC` (R275): C is the old C. -/
def dec8 (v : Byte) (old : Flags) : Byte × Flags :=
  (v - 0x01#8, { z := decide (v = 0x01#8), n := true, h := decide (v &&& 0x0F#8 = 0x00#8), c := old.c })

/-- `DAA` (R276): a total function of A and N, H, C; both tests after an addition look at A before any
correction. DESIGN CHOICE among the treatments of U1 (log 9). -/
def daa8 (a : Byte) (old : Flags) : Byte × Flags :=
  let low := old.h || (!old.n && decide (a.toNat % 16 > 0x09))
  let high := old.c || (!old.n && decide (a.toNat > 0x99))
  let adj : Byte := (if low then 0x06#8 else 0x00#8) ||| (if high then 0x60#8 else 0x00#8)
  let r := if old.n then a - adj else a + adj
  (r, { z := decide (r = 0x00#8), n := old.n, h := false, c := high })

/-! ## 16-bit arithmetic of variant LR (R304) -/

/-- The 16-bit sum with H out of the low byte and C out of bit 15 (R304). -/
def add16 (a b : Word) : Word × Bool × Bool :=
  (BitVec.ofNat 16 (a.toNat + b.toNat),
   decide (a.toNat % 256 + b.toNat % 256 > 0xFF), decide (a.toNat + b.toNat > 0xFFFF))

/-! ## Rotates and shifts of variant LR: the result and the bit shifted out -/

/-- `RLC` (R314), `RLCA` (R310). -/
def rlc8 (v : Byte) (_ : Bool) : Byte × Bool :=
  ((v <<< 1) ||| bitByte (v.getLsbD 7), v.getLsbD 7)

/-- `RRC` (R315), `RRCA` (R311). -/
def rrc8 (v : Byte) (_ : Bool) : Byte × Bool :=
  ((v >>> 1) ||| (bitByte (v.getLsbD 0) <<< 7), v.getLsbD 0)

/-- `RL` (R316), `RLA` (R312): the old C enters. -/
def rl8 (v : Byte) (c : Bool) : Byte × Bool :=
  ((v <<< 1) ||| bitByte c, v.getLsbD 7)

/-- `RR` (R317), `RRA` (R313): the old C enters. -/
def rr8 (v : Byte) (c : Bool) : Byte × Bool :=
  ((v >>> 1) ||| (bitByte c <<< 7), v.getLsbD 0)

/-- `SLA` (R318). -/
def sla8 (v : Byte) (_ : Bool) : Byte × Bool :=
  (v <<< 1, v.getLsbD 7)

/-- `SRA` (R319): bit 7 is kept. -/
def sra8 (v : Byte) (_ : Bool) : Byte × Bool :=
  ((v >>> 1) ||| (v &&& 0x80#8), v.getLsbD 0)

/-- `SWAP` (R320): C is 0. -/
def swap8 (v : Byte) (_ : Bool) : Byte × Bool :=
  ((v <<< 4) ||| (v >>> 4), false)

/-- `SRL` (R321). -/
def srl8 (v : Byte) (_ : Bool) : Byte × Bool :=
  (v >>> 1, v.getLsbD 0)

/-- The flags of the prefixed rotates and shifts: Z from the result, N = H = 0 (R314 to R321). -/
def shiftFlags (w : Byte) (out : Bool) : Flags :=
  { z := decide (w = 0x00#8), n := false, h := false, c := out }

/-- The flags of the accumulator rotates: Z = 0 always (R310 to R313). -/
def accRotateFlags (out : Bool) : Flags :=
  { z := false, n := false, h := false, c := out }

/-- The flags of `BIT` (R322): Z is the complement of the tested bit, C is the old C. -/
def bitFlags (v : Byte) (b : Fin 8) (old : Flags) : Flags :=
  { z := !v.getLsbD b.val, n := false, h := true, c := old.c }

/-! ## Results with VF of variant C8 (R176 to R182) -/

/-- `ADD Vx,Vy` (R178): VF is the carry out. -/
def c8Add (a b : Byte) : Byte × Bool :=
  (BitVec.ofNat 8 (a.toNat + b.toNat), decide (a.toNat + b.toNat > 255))

/-- `SUB` (R179) and, with the operands exchanged, `SUBN` (R180): VF is 1 when no borrow occurred. -/
def c8Sub (a b : Byte) : Byte × Bool :=
  (a - b, decide (b.toNat ≤ a.toNat))

/-- `SHR` (R181): VF is the bit shifted out. -/
def c8Shr (a : Byte) : Byte × Bool :=
  (a >>> 1, a.getLsbD 0)

/-- `SHL` (R182): VF is the bit shifted out. -/
def c8Shl (a : Byte) : Byte × Bool :=
  (a <<< 1, a.getLsbD 7)

end Sys2Proof.Machine
end

