-- ==== Sys2Proof/Machine/Operands.lean ====
section
/-! DEFINITION. Every operand form: the registers of variant C8 (R21, R22), the 8-bit registers, pairs and
`(HL)` of variant LR (R41, R42, R115), its addresses (R108) and conditions (R109, R363). -/

namespace Sys2Proof.Machine

/-! ## Variant C8 -/

/-- `V[x]` (R21). -/
def State.vx (s : State) (x : VReg) : Byte :=
  s.c8.v[x.val]

/-- The index of VF (R22). -/
def vf : VReg := 15

/-- A result and its flag: the result to `V[x]`, then the flag to VF, so that with `x = 15` the flag
remains (R22, R176). -/
def State.setVWithFlag (s : State) (x : VReg) (r : Byte × Bool) : State :=
  (s.setV x r.1).setV vf (bitByte r.2)

/-- Skip the next word if `c` holds (R154 to R159). -/
def State.skipIf (s : State) (c : Bool) : State :=
  if c then s.advanceC8 else s

/-- The address `zext_16(nnn)` (R105). -/
def zext16 (nnn : BitVec 12) : Word :=
  nnn.setWidth 16

/-! ## Registers of variant LR -/

/-- Read an 8-bit register (R40, R41). -/
def State.reg (s : State) : Reg8 → Byte
  | .a => s.lr.a
  | .b => s.lr.b
  | .c => s.lr.c
  | .d => s.lr.d
  | .e => s.lr.e
  | .h => s.lr.h
  | .l => s.lr.l

/-- Write an 8-bit register (R40, R41). -/
def State.setReg (s : State) (r : Reg8) (v : Byte) : State :=
  match r with
  | .a => { s with lr := { s.lr with a := v } }
  | .b => { s with lr := { s.lr with b := v } }
  | .c => { s with lr := { s.lr with c := v } }
  | .d => { s with lr := { s.lr with d := v } }
  | .e => { s with lr := { s.lr with e := v } }
  | .h => { s with lr := { s.lr with h := v } }
  | .l => { s with lr := { s.lr with l := v } }

/-- `BC` (R42). -/
def State.bc (s : State) : Word := s.lr.b ++ s.lr.c

/-- `DE` (R42). -/
def State.de (s : State) : Word := s.lr.d ++ s.lr.e

/-- `HL` (R42). -/
def State.hl (s : State) : Word := s.lr.h ++ s.lr.l

/-- The high and the low byte of a word. -/
def hiByte (w : Word) : Byte := w.extractLsb' 8 8

/-- The low byte of a word. -/
def loByte (w : Word) : Byte := w.extractLsb' 0 8

/-- Write `BC` (R42). -/
def State.setBc (s : State) (w : Word) : State :=
  (s.setReg .b (hiByte w)).setReg .c (loByte w)

/-- Write `DE` (R42). -/
def State.setDe (s : State) (w : Word) : State :=
  (s.setReg .d (hiByte w)).setReg .e (loByte w)

/-- Write `HL` (R42). -/
def State.setHl (s : State) (w : Word) : State :=
  (s.setReg .h (hiByte w)).setReg .l (loByte w)

/-- Write `AF` (R42): `F` keeps the low nibble only (R43). -/
def State.setAf (s : State) (w : Word) : State :=
  (s.setReg .a (hiByte w)).writeF (loByte w)

/-- Read a pair of `LD rr,d16`, `INC rr`, `DEC rr`, `ADD HL,rr` (R42). -/
def State.pair (s : State) : Pair → Word
  | .bc => s.bc
  | .de => s.de
  | .hl => s.hl
  | .sp => s.lr.sp

/-- Write such a pair (R42). -/
def State.setPair (s : State) (p : Pair) (w : Word) : State :=
  match p with
  | .bc => s.setBc w
  | .de => s.setDe w
  | .hl => s.setHl w
  | .sp => s.setSp w

/-- Read a pair of `PUSH` (R42): `F` as it reads (R43, R254). -/
def State.stackPair (s : State) : StackPair → Word
  | .bc => s.bc
  | .de => s.de
  | .hl => s.hl
  | .af => s.lr.a ++ s.readF

/-- Write a pair of `POP` (R42). -/
def State.setStackPair (s : State) (p : StackPair) (w : Word) : State :=
  match p with
  | .bc => s.setBc w
  | .de => s.setDe w
  | .hl => s.setHl w
  | .af => s.setAf w

/-! ## Operands and addresses of variant LR -/

/-- An 8-bit operand by its register code (R41): a register, or the byte at `(HL)` for code 6. -/
inductive Operand8 where
  | reg (r : Reg8)
  | atHl
  deriving DecidableEq, Repr

/-- `r8(c)` (R115). -/
def State.r8 (s : State) : Operand8 → Byte
  | .reg r => s.reg r
  | .atHl => s.lrRead s.hl

/-- `r8(c) <- v` (R115). -/
def State.setR8 (s : State) (o : Operand8) (v : Byte) : Except Failure State :=
  match o with
  | .reg r => .ok (s.setReg r v)
  | .atHl => s.lrWrite s.hl v

/-- `0xFF00 + a8` (R108). -/
def highPage (a8 : Byte) : Word :=
  0xFF#8 ++ a8

/-- `sext_8(e) & 0xFFFF` (R8, R108). -/
def sext16 (e : Byte) : Word :=
  e.signExtend 16

/-- `cond(cc)` (R109, R363). -/
def State.cond (s : State) : Cond → Bool
  | .nz => !s.flags.z
  | .z => s.flags.z
  | .nc => !s.flags.c
  | .c => s.flags.c

/-- A result to A with its flags (R266 to R272). -/
def State.setAcc (s : State) (r : Byte × Flags) : State :=
  (s.setReg .a r.1).setFlags r.2

end Sys2Proof.Machine
end

