-- ==== Sys2Proof/Machine/Cycles.lean ====
section
/-! DEFINITION. The cycle table (R140, R431, the `cycles` field of each row of the opcode table): what a
skipped instruction returns (R136). An instruction that runs returns the number on its own rule's
`Cycles:` line, which stands in its meaning. -/

namespace Sys2Proof.Machine

/-- The cycles of the prefixed instruction with operation byte `b1` (R112, R431): 8 for a register, 16
for `(HL)`, 12 for `BIT b,(HL)`. -/
def prefixedCycles (b1 : Byte) : Nat :=
  if fieldZzz b1 = 6 then (if fieldXx b1 = 1 then 12 else 16) else 8

/-- The cycles of an instruction, the not-taken value of a conditional one (R136, R431). -/
def notTakenCycles : Instr → Nat
  | .lrPrefixCb b1 => prefixedCycles b1
  | .c8Ret | .c8Sys _ | .c8Jp _ | .c8Call _ | .c8SeImm _ _ | .c8SneImm _ _ | .c8SeReg _ _
  | .c8SneReg _ _ | .c8JpV0 _ | .c8Skp _ | .c8Sknp _ | .c8LdImm _ _ | .c8AddImm _ _
  | .c8LdReg _ _ | .c8Or _ _ | .c8And _ _ | .c8Xor _ _ | .c8AddReg _ _ | .c8Sub _ _ | .c8Shr _ _
  | .c8Subn _ _ | .c8Shl _ _ | .c8LdI _ | .c8Rnd _ _ | .c8AddI _ | .c8Cls | .c8Drw _ _ _
  | .c8LdVxDt _ | .c8LdVxK _ | .c8LdDtVx _ | .c8LdStVx _ | .c8LdF _ | .c8LdB _ | .c8StoreRegs _
  | .c8LoadRegs _ => 1
  | .lrLdRR _ _ | .lrAddR _ | .lrAdcR _ | .lrSubR _ | .lrSbcR _ | .lrAndR _ | .lrXorR _
  | .lrOrR _ | .lrCpR _ | .lrIncR _ | .lrDecR _ | .lrDaa | .lrCpl | .lrScf | .lrCcf | .lrRlca
  | .lrRrca | .lrRla | .lrRra | .lrNop | .lrJpHl | .lrDi | .lrEi | .lrHalt | .lrStop _ => 4
  | .lrLdRM _ | .lrLdMR _ | .lrLdRN _ _ | .lrLdABc | .lrLdADe | .lrLdBcA | .lrLdDeA | .lrLdAC
  | .lrLdCA | .lrLdHliA | .lrLdAHli | .lrLdHldA | .lrLdAHld | .lrLdSpHl | .lrAddM | .lrAddN _
  | .lrAdcM | .lrAdcN _ | .lrSubM | .lrSubN _ | .lrSbcM | .lrSbcN _ | .lrAndM | .lrAndN _
  | .lrXorM | .lrXorN _ | .lrOrM | .lrOrN _ | .lrCpM | .lrCpN _ | .lrAddHl _ | .lrIncPair _
  | .lrDecPair _ | .lrRlcR _ | .lrRrcR _ | .lrRlR _ | .lrRrR _ | .lrSlaR _ | .lrSraR _
  | .lrSwapR _ | .lrSrlR _ | .lrBitR _ _ | .lrResR _ _ | .lrSetR _ _ | .lrJrCc _ _ | .lrRetCc _ => 8
  | .lrLdMN _ | .lrLdhAA8 _ | .lrLdhA8A _ | .lrLdPairN _ _ | .lrLdHlSp _ | .lrPop _ | .lrPopAf
  | .lrIncM | .lrDecM | .lrBitM _ | .lrJpCc _ _ | .lrJr _ | .lrCallCc _ _ => 12
  | .lrLdAA16 _ | .lrLdA16A _ | .lrPush _ | .lrAddSp _ | .lrRlcM | .lrRrcM | .lrRlM | .lrRrM
  | .lrSlaM | .lrSraM | .lrSwapM | .lrSrlM | .lrResM _ | .lrSetM _ | .lrJp _ | .lrRet | .lrReti
  | .lrRst _ => 16
  | .lrLdA16Sp _ => 20
  | .lrCall _ => 24

/-- The cycles of an instruction, the taken value of a conditional one (R137, R431). -/
def takenCycles : Instr → Nat
  | .lrPrefixCb b1 => prefixedCycles b1
  | .c8Ret | .c8Sys _ | .c8Jp _ | .c8Call _ | .c8SeImm _ _ | .c8SneImm _ _ | .c8SeReg _ _
  | .c8SneReg _ _ | .c8JpV0 _ | .c8Skp _ | .c8Sknp _ | .c8LdImm _ _ | .c8AddImm _ _
  | .c8LdReg _ _ | .c8Or _ _ | .c8And _ _ | .c8Xor _ _ | .c8AddReg _ _ | .c8Sub _ _ | .c8Shr _ _
  | .c8Subn _ _ | .c8Shl _ _ | .c8LdI _ | .c8Rnd _ _ | .c8AddI _ | .c8Cls | .c8Drw _ _ _
  | .c8LdVxDt _ | .c8LdVxK _ | .c8LdDtVx _ | .c8LdStVx _ | .c8LdF _ | .c8LdB _ | .c8StoreRegs _
  | .c8LoadRegs _ => 1
  | .lrLdRR _ _ | .lrAddR _ | .lrAdcR _ | .lrSubR _ | .lrSbcR _ | .lrAndR _ | .lrXorR _
  | .lrOrR _ | .lrCpR _ | .lrIncR _ | .lrDecR _ | .lrDaa | .lrCpl | .lrScf | .lrCcf | .lrRlca
  | .lrRrca | .lrRla | .lrRra | .lrNop | .lrJpHl | .lrDi | .lrEi | .lrHalt | .lrStop _ => 4
  | .lrLdRM _ | .lrLdMR _ | .lrLdRN _ _ | .lrLdABc | .lrLdADe | .lrLdBcA | .lrLdDeA | .lrLdAC
  | .lrLdCA | .lrLdHliA | .lrLdAHli | .lrLdHldA | .lrLdAHld | .lrLdSpHl | .lrAddM | .lrAddN _
  | .lrAdcM | .lrAdcN _ | .lrSubM | .lrSubN _ | .lrSbcM | .lrSbcN _ | .lrAndM | .lrAndN _
  | .lrXorM | .lrXorN _ | .lrOrM | .lrOrN _ | .lrCpM | .lrCpN _ | .lrAddHl _ | .lrIncPair _
  | .lrDecPair _ | .lrRlcR _ | .lrRrcR _ | .lrRlR _ | .lrRrR _ | .lrSlaR _ | .lrSraR _
  | .lrSwapR _ | .lrSrlR _ | .lrBitR _ _ | .lrResR _ _ | .lrSetR _ _ => 8
  | .lrLdMN _ | .lrLdhAA8 _ | .lrLdhA8A _ | .lrLdPairN _ _ | .lrLdHlSp _ | .lrPop _ | .lrPopAf
  | .lrIncM | .lrDecM | .lrBitM _ | .lrJr _ | .lrJrCc _ _ => 12
  | .lrLdAA16 _ | .lrLdA16A _ | .lrPush _ | .lrAddSp _ | .lrRlcM | .lrRrcM | .lrRlM | .lrRrM
  | .lrSlaM | .lrSraM | .lrSwapM | .lrSrlM | .lrResM _ | .lrSetM _ | .lrJp _ | .lrJpCc _ _
  | .lrRet | .lrReti | .lrRst _ => 16
  | .lrLdA16Sp _ | .lrRetCc _ => 20
  | .lrCall _ | .lrCallCc _ _ => 24

/-- The answer of an idle step (R131, R140). -/
def idleCycles : System → Nat
  | .c8 => 0
  | .lr => 4

end Sys2Proof.Machine
end

