-- ==== Sys2Proof/Machine/C8Alu.lean ====
section
/-! DEFINITION. Variant C8: register moves, arithmetic, logic, random, index (42_c8_alu.md, R170 to R185). -/

namespace Sys2Proof.Machine

/-- `LD Vx,kk` (R170). -/
def execC8LdImm (x : VReg) (kk : Byte) (s : State) : Out :=
  runC8 (fun t => .ok (t.setV x kk)) s

/-- `ADD Vx,kk` (R171): no flag. -/
def execC8AddImm (x : VReg) (kk : Byte) (s : State) : Out :=
  runC8 (fun t => .ok (t.setV x (t.vx x + kk))) s

/-- `LD Vx,Vy` (R172). -/
def execC8LdReg (x y : VReg) (s : State) : Out :=
  runC8 (fun t => .ok (t.setV x (t.vx y))) s

/-- `OR Vx,Vy` (R173): VF unchanged. -/
def execC8Or (x y : VReg) (s : State) : Out :=
  runC8 (fun t => .ok (t.setV x (t.vx x ||| t.vx y))) s

/-- `AND Vx,Vy` (R174): VF unchanged. -/
def execC8And (x y : VReg) (s : State) : Out :=
  runC8 (fun t => .ok (t.setV x (t.vx x &&& t.vx y))) s

/-- `XOR Vx,Vy` (R175): VF unchanged. -/
def execC8Xor (x y : VReg) (s : State) : Out :=
  runC8 (fun t => .ok (t.setV x (t.vx x ^^^ t.vx y))) s

/-- `ADD Vx,Vy` (R178). -/
def execC8AddReg (x y : VReg) (s : State) : Out :=
  runC8 (fun t => .ok (t.setVWithFlag x (c8Add (t.vx x) (t.vx y)))) s

/-- `SUB Vx,Vy` (R179). -/
def execC8Sub (x y : VReg) (s : State) : Out :=
  runC8 (fun t => .ok (t.setVWithFlag x (c8Sub (t.vx x) (t.vx y)))) s

/-- `SUBN Vx,Vy` (R180): the operands of `SUB` exchanged. -/
def execC8Subn (x y : VReg) (s : State) : Out :=
  runC8 (fun t => .ok (t.setVWithFlag x (c8Sub (t.vx y) (t.vx x)))) s

/-- `SHR Vx` (R181): the field `y` is ignored. -/
def execC8Shr (x : VReg) (s : State) : Out :=
  runC8 (fun t => .ok (t.setVWithFlag x (c8Shr (t.vx x)))) s

/-- `SHL Vx` (R182): the field `y` is ignored. -/
def execC8Shl (x : VReg) (s : State) : Out :=
  runC8 (fun t => .ok (t.setVWithFlag x (c8Shl (t.vx x)))) s

/-- `RND Vx,kk` (R183): the draw is a free value, a fresh one per execution (log 5). -/
def execC8Rnd (x : VReg) (kk : Byte) (s : State) : Out :=
  runC8 (fun t => .ok ((t.setV x (Config.randByte t.draws &&& kk)).countDraw)) s

/-- `LD I,nnn` (R184). -/
def execC8LdI (nnn : BitVec 12) (s : State) : Out :=
  runC8 (fun t => .ok (t.setI (zext16 nnn))) s

/-- `ADD I,Vx` (R185): no flag. -/
def execC8AddI (x : VReg) (s : State) : Out :=
  runC8 (fun t => .ok (t.setI (t.c8.i + (t.vx x).setWidth 16))) s

end Sys2Proof.Machine
end

