-- ==== Sys2Proof/Machine/C8Control.lean ====
section
/-! DEFINITION. Variant C8: control transfer and skips (41_c8_control.md, R150 to R160). -/

namespace Sys2Proof.Machine

/-- `JP nnn` (R150). -/
def execC8Jp (nnn : BitVec 12) (s : State) : Out :=
  runC8 (fun t => .ok (t.setC8Pc (zext16 nnn))) s

/-- `CALL nnn` (R151): the pushed pc is the address of the next word. -/
def execC8Call (nnn : BitVec 12) (s : State) : Out :=
  runC8 (fun t => (t.push t.c8.pc).map fun u => u.setC8Pc (zext16 nnn)) s

/-- `JP V0,nnn` (R152): not masked to 12 bits. -/
def execC8JpV0 (nnn : BitVec 12) (s : State) : Out :=
  runC8 (fun t => .ok (t.setC8Pc (zext16 nnn + (t.vx 0).setWidth 16))) s

/-- `RET` of variant C8 (R153). -/
def execC8Ret (s : State) : Out :=
  runC8 (fun t => t.pop.map fun p => p.2.setC8Pc p.1) s

/-- `SE Vx,kk` (R154). -/
def execC8SeImm (x : VReg) (kk : Byte) (s : State) : Out :=
  runC8 (fun t => .ok (t.skipIf (decide (t.vx x = kk)))) s

/-- `SNE Vx,kk` (R155). -/
def execC8SneImm (x : VReg) (kk : Byte) (s : State) : Out :=
  runC8 (fun t => .ok (t.skipIf (decide (t.vx x ≠ kk)))) s

/-- `SE Vx,Vy` (R156). -/
def execC8SeReg (x y : VReg) (s : State) : Out :=
  runC8 (fun t => .ok (t.skipIf (decide (t.vx x = t.vx y)))) s

/-- `SNE Vx,Vy` (R157). -/
def execC8SneReg (x y : VReg) (s : State) : Out :=
  runC8 (fun t => .ok (t.skipIf (decide (t.vx x ≠ t.vx y)))) s

/-- Is the key numbered `V[x]` held (R158)? `InvalidOpcodeUsage(V[x])` where it names no key. -/
def State.keyHeld (s : State) (x : VReg) : Except Failure Bool :=
  if h : (s.vx x).toNat < 16 then .ok s.c8.keys[(s.vx x).toNat]
  else .error (.invalidOpcodeUsage (s.vx x))

/-- `SKP Vx` (R158). -/
def execC8Skp (x : VReg) (s : State) : Out :=
  runC8 (fun t => (t.keyHeld x).map fun held => t.skipIf held) s

/-- `SKNP Vx` (R159). -/
def execC8Sknp (x : VReg) (s : State) : Out :=
  runC8 (fun t => (t.keyHeld x).map fun held => t.skipIf (!held)) s

/-- The two bytes of the word of `SYS nnn` (R160). -/
def sysBytes (nnn : BitVec 12) : List Byte :=
  [(nnn.extractLsb' 8 4).setWidth 8, nnn.extractLsb' 0 8]

/-- `SYS nnn` (R160): `UnrecognizedOpcode` with the address and the bytes of the word; the pc is not
advanced. -/
def execC8Sys (nnn : BitVec 12) (s : State) : Out :=
  .next (s.crash (.unrecognizedOpcode s.c8.pc (sysBytes nnn)))

end Sys2Proof.Machine
end

