-- ==== Sys2Proof/Machine/C8Mem.lean ====
section
/-! DEFINITION. Variant C8: display, timers, key wait, memory (43_c8_mem_timer_display.md, R200 to R209). -/

namespace Sys2Proof.Machine

/-- The clear framebuffer (R200). -/
def clearFb : Framebuffer :=
  Vector.replicate 32 (Vector.replicate 64 false)

/-- `CLS` (R200). -/
def execC8Cls (s : State) : Out :=
  runC8 (fun t => .ok (t.setFb clearFb)) s

/-- Exclusive-or one pixel with 1 (R201): the framebuffer, and `hit` if the pixel was on. -/
def drawPixel (px : Fin 64) (py : Fin 32) (acc : Framebuffer × Bool) : Framebuffer × Bool :=
  let row := acc.1[py.val]
  (acc.1.set py.val (row.set px.val (!row[px.val]) px.isLt) py.isLt, acc.2 || row[px.val])

/-- Draw the eight columns of a sprite row from column `x0`, wrapping modulo 64 (R201). -/
def drawRow (x0 : Nat) (py : Fin 32) (row : Byte) (acc : Framebuffer × Bool) : Framebuffer × Bool :=
  (List.range 8).foldl
    (fun acc c => if row.getLsbD (7 - c) then drawPixel (Fin.ofNat 64 (x0 + c)) py acc else acc) acc

/-- Draw the rows of a sprite downwards from row `y`, wrapping modulo 32 (R201). -/
def drawRows (x0 y : Nat) : List Byte → Framebuffer × Bool → Framebuffer × Bool
  | [], acc => acc
  | row :: rows, acc => drawRows x0 (y + 1) rows (drawRow x0 (Fin.ofNat 32 y) row acc)

/-- `DRW Vx,Vy,n` (R201): all reads first, the coordinates taken before VF is written. -/
def execC8Drw (x y : VReg) (n : Fin 16) (s : State) : Out :=
  runC8 (fun t =>
    (t.c8Read t.c8.i.toNat n.val).map fun rows =>
      let r := drawRows ((t.vx x).toNat % 64) ((t.vx y).toNat % 32) rows (t.c8.fb, false)
      (t.setFb r.1).setV vf (bitByte r.2)) s

/-- `LD Vx,DT` (R202). -/
def execC8LdVxDt (x : VReg) (s : State) : Out :=
  runC8 (fun t => .ok (t.setV x t.c8.dt)) s

/-- `LD Vx,K` (R203): halt; the register is written by the wake check (R395). -/
def execC8LdVxK (x : VReg) (s : State) : Out :=
  runC8 (fun t => .ok ((t.setWaitReg x).setStatus .halted)) s

/-- `LD DT,Vx` (R204). -/
def execC8LdDtVx (x : VReg) (s : State) : Out :=
  runC8 (fun t => .ok (t.setDt (t.vx x))) s

/-- `LD ST,Vx` (R205). -/
def execC8LdStVx (x : VReg) (s : State) : Out :=
  runC8 (fun t => .ok (t.setSt (t.vx x))) s

/-- `sound_out` (R27): a pure function of `ST`. -/
def State.soundOut (s : State) : Bool :=
  decide (0 < s.c8.st.toNat)

/-- The three decimal digits of a byte (R206). -/
def decimalDigits (v : Byte) : List Byte :=
  [BitVec.ofNat 8 (v.toNat / 100), BitVec.ofNat 8 (v.toNat / 10 % 10), BitVec.ofNat 8 (v.toNat % 10)]

/-- `LD B,Vx` (R206). -/
def execC8LdB (x : VReg) (s : State) : Out :=
  runC8 (fun t => t.c8Write t.c8.i.toNat (decimalDigits (t.vx x))) s

/-- `LD F,Vx` (R207): the address is computed from the fixed font base. -/
def execC8LdF (x : VReg) (s : State) : Out :=
  runC8 (fun t =>
    if 15 < (t.vx x).toNat then .error (.invalidOpcodeUsage (t.vx x))
    else .ok (t.setI (BitVec.ofNat 16 (fontBase + 5 * (t.vx x).toNat)))) s

/-- The registers `V[0]..V[x]`. -/
def State.regsUpTo (s : State) (x : VReg) : List Byte :=
  s.c8.v.toList.take (x.val + 1)

/-- `LD [I],Vx` (R208): `I` is unchanged. -/
def execC8StoreRegs (x : VReg) (s : State) : Out :=
  runC8 (fun t => t.c8Write t.c8.i.toNat (t.regsUpTo x)) s

/-- Write `V[k], V[k+1], ...` from a list; what would fall beyond `V[15]` is not written. -/
def loadRegs (s : State) (k : Nat) : List Byte → State
  | [] => s
  | v :: vs => loadRegs (if h : k < 16 then s.setV ⟨k, h⟩ v else s) (k + 1) vs

/-- `LD Vx,[I]` (R209): all reads first; `I` is unchanged. -/
def execC8LoadRegs (x : VReg) (s : State) : Out :=
  runC8 (fun t => (t.c8Read t.c8.i.toNat (x.val + 1)).map fun vs => loadRegs t 0 vs) s

end Sys2Proof.Machine
end

