-- ==== Sys2Proof/Machine/LrAlu16.lean ====
section
/-! DEFINITION. Variant LR: 16-bit arithmetic (47_lr_alu16.md, R300 to R304). -/

namespace Sys2Proof.Machine

/-- `ADD HL,rr` (R300): Z unchanged, N = 0, H and C by the 16-bit law (R304). -/
def execLrAddHl (p : Pair) (s : State) : Out :=
  runLr 1 8 (fun t =>
    let r := add16 t.hl (t.pair p)
    .ok ((t.setHl r.1).setFlags { z := t.flags.z, n := false, h := r.2.1, c := r.2.2 })) s

/-- `INC rr` (R301): no flag. -/
def execLrIncPair (p : Pair) (s : State) : Out :=
  runLr 1 8 (fun t => .ok (t.setPair p (t.pair p + 1#16))) s

/-- `DEC rr` (R302): no flag. -/
def execLrDecPair (p : Pair) (s : State) : Out :=
  runLr 1 8 (fun t => .ok (t.setPair p (t.pair p - 1#16))) s

/-- `ADD SP,e` (R303): Z = N = 0, H and C by the 16-bit law (R304); no stack check. -/
def execLrAddSp (e : Byte) (s : State) : Out :=
  runLr 2 16 (fun t =>
    let r := add16 t.lr.sp (sext16 e)
    .ok ((t.setSp r.1).setFlags { z := false, n := false, h := r.2.1, c := r.2.2 })) s

end Sys2Proof.Machine
end

