-- ==== Sys2Proof/Machine/LrAlu8.lean ====
section
/-! DEFINITION. Variant LR: 8-bit arithmetic and logic (46_lr_alu8.md, R265 to R279). -/

namespace Sys2Proof.Machine

/-- `ADD A,r` (R266). -/
def execLrAddR (r : Reg8) (s : State) : Out :=
  runLr 1 4 (fun t => .ok (t.setAcc (add8 t.lr.a (t.reg r) false))) s

/-- `ADD A,(HL)` (R266). -/
def execLrAddM (s : State) : Out :=
  runLr 1 8 (fun t => .ok (t.setAcc (add8 t.lr.a (t.lrRead t.hl) false))) s

/-- `ADD A,d8` (R266). -/
def execLrAddN (d8 : Byte) (s : State) : Out :=
  runLr 2 8 (fun t => .ok (t.setAcc (add8 t.lr.a d8 false))) s

/-- `ADC A,r` (R267). -/
def execLrAdcR (r : Reg8) (s : State) : Out :=
  runLr 1 4 (fun t => .ok (t.setAcc (add8 t.lr.a (t.reg r) t.flags.c))) s

/-- `ADC A,(HL)` (R267). -/
def execLrAdcM (s : State) : Out :=
  runLr 1 8 (fun t => .ok (t.setAcc (add8 t.lr.a (t.lrRead t.hl) t.flags.c))) s

/-- `ADC A,d8` (R267). -/
def execLrAdcN (d8 : Byte) (s : State) : Out :=
  runLr 2 8 (fun t => .ok (t.setAcc (add8 t.lr.a d8 t.flags.c))) s

/-- `SUB r` (R268). -/
def execLrSubR (r : Reg8) (s : State) : Out :=
  runLr 1 4 (fun t => .ok (t.setAcc (sub8 t.lr.a (t.reg r) false))) s

/-- `SUB (HL)` (R268). -/
def execLrSubM (s : State) : Out :=
  runLr 1 8 (fun t => .ok (t.setAcc (sub8 t.lr.a (t.lrRead t.hl) false))) s

/-- `SUB d8` (R268). -/
def execLrSubN (d8 : Byte) (s : State) : Out :=
  runLr 2 8 (fun t => .ok (t.setAcc (sub8 t.lr.a d8 false))) s

/-- `SBC A,r` (R269). -/
def execLrSbcR (r : Reg8) (s : State) : Out :=
  runLr 1 4 (fun t => .ok (t.setAcc (sub8 t.lr.a (t.reg r) t.flags.c))) s

/-- `SBC A,(HL)` (R269). -/
def execLrSbcM (s : State) : Out :=
  runLr 1 8 (fun t => .ok (t.setAcc (sub8 t.lr.a (t.lrRead t.hl) t.flags.c))) s

/-- `SBC A,d8` (R269). -/
def execLrSbcN (d8 : Byte) (s : State) : Out :=
  runLr 2 8 (fun t => .ok (t.setAcc (sub8 t.lr.a d8 t.flags.c))) s

/-- `AND r` (R270). -/
def execLrAndR (r : Reg8) (s : State) : Out :=
  runLr 1 4 (fun t => .ok (t.setAcc (and8 t.lr.a (t.reg r)))) s

/-- `AND (HL)` (R270). -/
def execLrAndM (s : State) : Out :=
  runLr 1 8 (fun t => .ok (t.setAcc (and8 t.lr.a (t.lrRead t.hl)))) s

/-- `AND d8` (R270). -/
def execLrAndN (d8 : Byte) (s : State) : Out :=
  runLr 2 8 (fun t => .ok (t.setAcc (and8 t.lr.a d8))) s

/-- `XOR r` (R271). -/
def execLrXorR (r : Reg8) (s : State) : Out :=
  runLr 1 4 (fun t => .ok (t.setAcc (xor8 t.lr.a (t.reg r)))) s

/-- `XOR (HL)` (R271). -/
def execLrXorM (s : State) : Out :=
  runLr 1 8 (fun t => .ok (t.setAcc (xor8 t.lr.a (t.lrRead t.hl)))) s

/-- `XOR d8` (R271). -/
def execLrXorN (d8 : Byte) (s : State) : Out :=
  runLr 2 8 (fun t => .ok (t.setAcc (xor8 t.lr.a d8))) s

/-- `OR r` (R272). -/
def execLrOrR (r : Reg8) (s : State) : Out :=
  runLr 1 4 (fun t => .ok (t.setAcc (or8 t.lr.a (t.reg r)))) s

/-- `OR (HL)` (R272). -/
def execLrOrM (s : State) : Out :=
  runLr 1 8 (fun t => .ok (t.setAcc (or8 t.lr.a (t.lrRead t.hl)))) s

/-- `OR d8` (R272). -/
def execLrOrN (d8 : Byte) (s : State) : Out :=
  runLr 2 8 (fun t => .ok (t.setAcc (or8 t.lr.a d8))) s

/-- `CP r` (R273): the flags of `SUB`, A is not written. -/
def execLrCpR (r : Reg8) (s : State) : Out :=
  runLr 1 4 (fun t => .ok (t.setFlags (sub8 t.lr.a (t.reg r) false).2)) s

/-- `CP (HL)` (R273): the flags of `SUB`, A is not written. -/
def execLrCpM (s : State) : Out :=
  runLr 1 8 (fun t => .ok (t.setFlags (sub8 t.lr.a (t.lrRead t.hl) false).2)) s

/-- `CP d8` (R273): the flags of `SUB`, A is not written. -/
def execLrCpN (d8 : Byte) (s : State) : Out :=
  runLr 2 8 (fun t => .ok (t.setFlags (sub8 t.lr.a d8 false).2)) s

/-- Replace an operand by a function of it and the flags, and write the flags (R274, R275). -/
def modify8 (f : Byte → Flags → Byte × Flags) (o : Operand8) (t : State) : Except Failure State :=
  let r := f (t.r8 o) t.flags
  (t.setR8 o r.1).map fun u => u.setFlags r.2

/-- `INC r` (R274). -/
def execLrIncR (r : Reg8) (s : State) : Out :=
  runLr 1 4 (modify8 inc8 (.reg r)) s

/-- `INC (HL)` (R274). -/
def execLrIncM (s : State) : Out :=
  runLr 1 12 (modify8 inc8 .atHl) s

/-- `DEC r` (R275). -/
def execLrDecR (r : Reg8) (s : State) : Out :=
  runLr 1 4 (modify8 dec8 (.reg r)) s

/-- `DEC (HL)` (R275). -/
def execLrDecM (s : State) : Out :=
  runLr 1 12 (modify8 dec8 .atHl) s

/-- `DAA` (R276). -/
def execLrDaa (s : State) : Out :=
  runLr 1 4 (fun t => .ok (t.setAcc (daa8 t.lr.a t.flags))) s

/-- `CPL` (R277). -/
def execLrCpl (s : State) : Out :=
  runLr 1 4 (fun t => .ok (t.setAcc (t.lr.a ^^^ 0xFF#8, { t.flags with n := true, h := true }))) s

/-- `SCF` (R278). -/
def execLrScf (s : State) : Out :=
  runLr 1 4 (fun t => .ok (t.setFlags { t.flags with n := false, h := false, c := true })) s

/-- `CCF` (R279). -/
def execLrCcf (s : State) : Out :=
  runLr 1 4 (fun t => .ok (t.setFlags { t.flags with n := false, h := false, c := !t.flags.c })) s

end Sys2Proof.Machine
end

