-- ==== Sys2Proof/Machine/LrControl.lean ====
section
/-! DEFINITION. Variant LR: control transfer, interrupt control, halt, stop (49_lr_control.md, R340 to R364). -/

namespace Sys2Proof.Machine

/-- A jump, call or return of `len` bytes under a condition (R363): the taken cycles where it holds, else
no effect but the pc advance and the not-taken cycles. -/
def runLrIf (cc : Cond) (len taken notTaken : Nat) (op : State → Except Failure State) (s : State) : Out :=
  if s.cond cc then runLr len taken op s else runLr len notTaken .ok s

/-- Push the pc and go to `target` (R346, R357, R364). -/
def State.callTo (t : State) (target : Word) : Except Failure State :=
  (t.push16 t.lr.pc).map fun u => u.setLrPc target

/-- Pop the pc (R348). -/
def State.returnTo (t : State) : Except Failure State :=
  t.pop16.map fun p => p.2.setLrPc p.1

/-- `NOP` (R340). -/
def execLrNop (s : State) : Out :=
  runLr 1 4 .ok s

/-- `JP a16` (R341). -/
def execLrJp (a16 : Word) (s : State) : Out :=
  runLr 3 16 (fun t => .ok (t.setLrPc a16)) s

/-- `JP cc,a16` (R342). -/
def execLrJpCc (cc : Cond) (a16 : Word) (s : State) : Out :=
  runLrIf cc 3 16 12 (fun t => .ok (t.setLrPc a16)) s

/-- `JP (HL)` (R343): no memory is read. -/
def execLrJpHl (s : State) : Out :=
  runLr 1 4 (fun t => .ok (t.setLrPc t.hl)) s

/-- `JR e` (R344). -/
def execLrJr (e : Byte) (s : State) : Out :=
  runLr 2 12 (fun t => .ok (t.setLrPc (t.lr.pc + sext16 e))) s

/-- `JR cc,e` (R345). -/
def execLrJrCc (cc : Cond) (e : Byte) (s : State) : Out :=
  runLrIf cc 2 12 8 (fun t => .ok (t.setLrPc (t.lr.pc + sext16 e))) s

/-- `CALL a16` (R346). -/
def execLrCall (a16 : Word) (s : State) : Out :=
  runLr 3 24 (fun t => t.callTo a16) s

/-- `CALL cc,a16` (R347). -/
def execLrCallCc (cc : Cond) (a16 : Word) (s : State) : Out :=
  runLrIf cc 3 24 12 (fun t => t.callTo a16) s

/-- `RET` of variant LR (R348). -/
def execLrRet (s : State) : Out :=
  runLr 1 16 State.returnTo s

/-- `RET cc` (R349). -/
def execLrRetCc (cc : Cond) (s : State) : Out :=
  runLrIf cc 1 20 8 State.returnTo s

/-- `RETI` (R350): the return from an interrupt (R386). -/
def execLrReti (s : State) : Out :=
  runLr 1 16 State.leaveInterrupt s

/-- `RST 8*n` (R357). -/
def execLrRst (n : Fin 8) (s : State) : Out :=
  runLr 1 16 (fun t => t.callTo (BitVec.ofNat 16 (8 * n.val))) s

/-- `DI` (R358): at once, and a pending `EI` is cancelled. -/
def execLrDi (s : State) : Out :=
  runLr 1 4 (fun t => .ok ((t.setIme false).setEiPending false)) s

/-- `EI` (R359): takes effect in phase P5 of the next instruction step (R132). -/
def execLrEi (s : State) : Out :=
  runLr 1 4 (fun t => .ok (t.setEiPending true)) s

/-- `HALT` (R361): policy `SkipNext`, the one the rules specify (D29, log 10). -/
def execLrHalt (s : State) : Out :=
  runLr 1 4 (fun t =>
    .ok (if t.lr.ime = false ∧ t.pending = true then t.setSkipNext true else t.setStatus .halted)) s

/-- `STOP` (R362): the second byte is ignored. -/
def execLrStop (s : State) : Out :=
  runLr 2 4 (fun t => .ok (t.setStatus .stopped)) s

end Sys2Proof.Machine
end

