-- ==== Sys2Proof/Machine/LrLoad16.lean ====
section
/-! DEFINITION. Variant LR: 16-bit loads and the stack (45_lr_load16_stack.md, R250 to R256). -/

namespace Sys2Proof.Machine

/-- `LD rr,d16` (R250). -/
def execLrLdPairN (p : Pair) (d16 : Word) (s : State) : Out :=
  runLr 3 12 (fun t => .ok (t.setPair p d16)) s

/-- `LD (a16),SP` (R251). -/
def execLrLdA16Sp (a16 : Word) (s : State) : Out :=
  runLr 3 20 (fun t => t.lrWrite16 a16 t.lr.sp) s

/-- `LD SP,HL` (R252). -/
def execLrLdSpHl (s : State) : Out :=
  runLr 1 8 (fun t => .ok (t.setSp t.hl)) s

/-- `LD HL,SP+e` (R253): Z = N = 0, H and C by the 16-bit law (R304). -/
def execLrLdHlSp (e : Byte) (s : State) : Out :=
  runLr 2 12 (fun t =>
    let r := add16 t.lr.sp (sext16 e)
    .ok ((t.setHl r.1).setFlags { z := false, n := false, h := r.2.1, c := r.2.2 })) s

/-- `PUSH rr` (R254). -/
def execLrPush (p : StackPair) (s : State) : Out :=
  runLr 1 16 (fun t => t.push16 (t.stackPair p)) s

/-- `POP rr` (R255). -/
def execLrPop (p : StackPair) (s : State) : Out :=
  runLr 1 12 (fun t => t.pop16.map fun r => r.2.setStackPair p r.1) s

/-- `POP AF` (R256): the flags from the low nibble of the popped byte. -/
def execLrPopAf (s : State) : Out :=
  runLr 1 12 (fun t => t.pop16.map fun r => r.2.setAf r.1) s

end Sys2Proof.Machine
end

