-- ==== Sys2Proof/Machine/LrLoad8.lean ====
section
/-! DEFINITION. Variant LR: 8-bit loads and stores (44_lr_load8.md, R220 to R238). -/

namespace Sys2Proof.Machine

/-- `LD r,r'` (R220). -/
def execLrLdRR (dst src : Reg8) (s : State) : Out :=
  runLr 1 4 (fun t => .ok (t.setReg dst (t.reg src))) s

/-- `LD r,(HL)` (R221): the old HL addresses the byte. -/
def execLrLdRM (dst : Reg8) (s : State) : Out :=
  runLr 1 8 (fun t => .ok (t.setReg dst (t.lrRead t.hl))) s

/-- `LD (HL),r` (R222). -/
def execLrLdMR (src : Reg8) (s : State) : Out :=
  runLr 1 8 (fun t => t.lrWrite t.hl (t.reg src)) s

/-- `LD r,d8` (R223). -/
def execLrLdRN (dst : Reg8) (d8 : Byte) (s : State) : Out :=
  runLr 2 8 (fun t => .ok (t.setReg dst d8)) s

/-- `LD (HL),d8` (R224). -/
def execLrLdMN (d8 : Byte) (s : State) : Out :=
  runLr 2 12 (fun t => t.lrWrite t.hl d8) s

/-- `LD A,(BC)` (R225). -/
def execLrLdABc (s : State) : Out :=
  runLr 1 8 (fun t => .ok (t.setReg .a (t.lrRead t.bc))) s

/-- `LD A,(DE)` (R226). -/
def execLrLdADe (s : State) : Out :=
  runLr 1 8 (fun t => .ok (t.setReg .a (t.lrRead t.de))) s

/-- `LD (BC),A` (R227). -/
def execLrLdBcA (s : State) : Out :=
  runLr 1 8 (fun t => t.lrWrite t.bc t.lr.a) s

/-- `LD (DE),A` (R228). -/
def execLrLdDeA (s : State) : Out :=
  runLr 1 8 (fun t => t.lrWrite t.de t.lr.a) s

/-- `LD A,(a16)` (R229). -/
def execLrLdAA16 (a16 : Word) (s : State) : Out :=
  runLr 3 16 (fun t => .ok (t.setReg .a (t.lrRead a16))) s

/-- `LD (a16),A` (R230). -/
def execLrLdA16A (a16 : Word) (s : State) : Out :=
  runLr 3 16 (fun t => t.lrWrite a16 t.lr.a) s

/-- `LDH A,(a8)` (R231). -/
def execLrLdhAA8 (a8 : Byte) (s : State) : Out :=
  runLr 2 12 (fun t => .ok (t.setReg .a (t.lrRead (highPage a8)))) s

/-- `LDH (a8),A` (R232). -/
def execLrLdhA8A (a8 : Byte) (s : State) : Out :=
  runLr 2 12 (fun t => t.lrWrite (highPage a8) t.lr.a) s

/-- `LD A,(C)` (R233). -/
def execLrLdAC (s : State) : Out :=
  runLr 1 8 (fun t => .ok (t.setReg .a (t.lrRead (highPage t.lr.c)))) s

/-- `LD (C),A` (R234). -/
def execLrLdCA (s : State) : Out :=
  runLr 1 8 (fun t => t.lrWrite (highPage t.lr.c) t.lr.a) s

/-- `LD (HL+),A` (R235): a store that fails leaves HL unchanged. -/
def execLrLdHliA (s : State) : Out :=
  runLr 1 8 (fun t => (t.lrWrite t.hl t.lr.a).map fun u => u.setHl (t.hl + 1#16)) s

/-- `LD A,(HL+)` (R236). -/
def execLrLdAHli (s : State) : Out :=
  runLr 1 8 (fun t => .ok ((t.setReg .a (t.lrRead t.hl)).setHl (t.hl + 1#16))) s

/-- `LD (HL-),A` (R237): a store that fails leaves HL unchanged. -/
def execLrLdHldA (s : State) : Out :=
  runLr 1 8 (fun t => (t.lrWrite t.hl t.lr.a).map fun u => u.setHl (t.hl - 1#16)) s

/-- `LD A,(HL-)` (R238). -/
def execLrLdAHld (s : State) : Out :=
  runLr 1 8 (fun t => .ok ((t.setReg .a (t.lrRead t.hl)).setHl (t.hl - 1#16))) s

end Sys2Proof.Machine
end

