-- ==== Sys2Proof/Machine/LrRotateBit.lean ====
section
/-! DEFINITION. Variant LR: rotates, shifts, bit operations and the prefix (48_lr_rotate_bit.md, R310 to R324, R112). -/

namespace Sys2Proof.Machine

/-- A rotate or shift of A: Z = 0 (R310 to R313). -/
def rotateAcc (rot : Byte → Bool → Byte × Bool) (t : State) : Except Failure State :=
  let r := rot t.lr.a t.flags.c
  .ok (t.setAcc (r.1, accRotateFlags r.2))

/-- A rotate or shift of an operand: Z from the result (R314 to R321). -/
def rotate8 (rot : Byte → Bool → Byte × Bool) (o : Operand8) (t : State) : Except Failure State :=
  let r := rot (t.r8 o) t.flags.c
  (t.setR8 o r.1).map fun u => u.setFlags (shiftFlags r.1 r.2)

/-- `BIT b` of an operand: the operand is not written (R322). -/
def testBit8 (b : Fin 8) (o : Operand8) (t : State) : Except Failure State :=
  .ok (t.setFlags (bitFlags (t.r8 o) b t.flags))

/-- `RES b` of an operand: no flag (R323). -/
def resetBit8 (b : Fin 8) (o : Operand8) (t : State) : Except Failure State :=
  t.setR8 o (t.r8 o &&& ~~~(1#8 <<< b.val))

/-- `SET b` of an operand: no flag (R324). -/
def setBit8 (b : Fin 8) (o : Operand8) (t : State) : Except Failure State :=
  t.setR8 o (t.r8 o ||| (1#8 <<< b.val))

/-- `RLCA` (R310). -/
def execLrRlca (s : State) : Out :=
  runLr 1 4 (rotateAcc rlc8) s

/-- `RRCA` (R311). -/
def execLrRrca (s : State) : Out :=
  runLr 1 4 (rotateAcc rrc8) s

/-- `RLA` (R312). -/
def execLrRla (s : State) : Out :=
  runLr 1 4 (rotateAcc rl8) s

/-- `RRA` (R313). -/
def execLrRra (s : State) : Out :=
  runLr 1 4 (rotateAcc rr8) s

/-- `RLC r` (R314). -/
def execLrRlcR (r : Reg8) (s : State) : Out :=
  runLr 2 8 (rotate8 rlc8 (.reg r)) s

/-- `RLC (HL)` (R314). -/
def execLrRlcM (s : State) : Out :=
  runLr 2 16 (rotate8 rlc8 .atHl) s

/-- `RRC r` (R315). -/
def execLrRrcR (r : Reg8) (s : State) : Out :=
  runLr 2 8 (rotate8 rrc8 (.reg r)) s

/-- `RRC (HL)` (R315). -/
def execLrRrcM (s : State) : Out :=
  runLr 2 16 (rotate8 rrc8 .atHl) s

/-- `RL r` (R316). -/
def execLrRlR (r : Reg8) (s : State) : Out :=
  runLr 2 8 (rotate8 rl8 (.reg r)) s

/-- `RL (HL)` (R316). -/
def execLrRlM (s : State) : Out :=
  runLr 2 16 (rotate8 rl8 .atHl) s

/-- `RR r` (R317). -/
def execLrRrR (r : Reg8) (s : State) : Out :=
  runLr 2 8 (rotate8 rr8 (.reg r)) s

/-- `RR (HL)` (R317). -/
def execLrRrM (s : State) : Out :=
  runLr 2 16 (rotate8 rr8 .atHl) s

/-- `SLA r` (R318). -/
def execLrSlaR (r : Reg8) (s : State) : Out :=
  runLr 2 8 (rotate8 sla8 (.reg r)) s

/-- `SLA (HL)` (R318). -/
def execLrSlaM (s : State) : Out :=
  runLr 2 16 (rotate8 sla8 .atHl) s

/-- `SRA r` (R319). -/
def execLrSraR (r : Reg8) (s : State) : Out :=
  runLr 2 8 (rotate8 sra8 (.reg r)) s

/-- `SRA (HL)` (R319). -/
def execLrSraM (s : State) : Out :=
  runLr 2 16 (rotate8 sra8 .atHl) s

/-- `SWAP r` (R320). -/
def execLrSwapR (r : Reg8) (s : State) : Out :=
  runLr 2 8 (rotate8 swap8 (.reg r)) s

/-- `SWAP (HL)` (R320). -/
def execLrSwapM (s : State) : Out :=
  runLr 2 16 (rotate8 swap8 .atHl) s

/-- `SRL r` (R321). -/
def execLrSrlR (r : Reg8) (s : State) : Out :=
  runLr 2 8 (rotate8 srl8 (.reg r)) s

/-- `SRL (HL)` (R321). -/
def execLrSrlM (s : State) : Out :=
  runLr 2 16 (rotate8 srl8 .atHl) s

/-- `BIT b,r` (R322). -/
def execLrBitR (b : Fin 8) (r : Reg8) (s : State) : Out :=
  runLr 2 8 (testBit8 b (.reg r)) s

/-- `BIT b,(HL)` (R322). -/
def execLrBitM (b : Fin 8) (s : State) : Out :=
  runLr 2 12 (testBit8 b .atHl) s

/-- `RES b,r` (R323). -/
def execLrResR (b : Fin 8) (r : Reg8) (s : State) : Out :=
  runLr 2 8 (resetBit8 b (.reg r)) s

/-- `RES b,(HL)` (R323). -/
def execLrResM (b : Fin 8) (s : State) : Out :=
  runLr 2 16 (resetBit8 b .atHl) s

/-- `SET b,r` (R324). -/
def execLrSetR (b : Fin 8) (r : Reg8) (s : State) : Out :=
  runLr 2 8 (setBit8 b (.reg r)) s

/-- `SET b,(HL)` (R324). -/
def execLrSetM (b : Fin 8) (s : State) : Out :=
  runLr 2 16 (setBit8 b .atHl) s

/-- The instruction of a row pair of the prefixed map by its code `zzz` (R112): `f r` for a register, `m`
for code 6. -/
def onCode (zzz : Nat) (f : Reg8 → State → Out) (m : State → Out) (s : State) : Out :=
  match regOfCode zzz with
  | some r => f r s
  | none => m s

/-- `PREFIX CB` with the byte after it (R112): the operation that byte selects in the prefixed map, by
`xx`, `yyy` and `zzz`. No bytes decode to it (log 14). -/
def execLrPrefixCb (b1 : Byte) (s : State) : Out :=
  let yyy := fieldYyy b1
  let zzz := fieldZzz b1
  match fieldXx b1 with
  | 0 =>
    match yyy.val with
    | 0 => onCode zzz execLrRlcR execLrRlcM s
    | 1 => onCode zzz execLrRrcR execLrRrcM s
    | 2 => onCode zzz execLrRlR execLrRlM s
    | 3 => onCode zzz execLrRrR execLrRrM s
    | 4 => onCode zzz execLrSlaR execLrSlaM s
    | 5 => onCode zzz execLrSraR execLrSraM s
    | 6 => onCode zzz execLrSwapR execLrSwapM s
    | _ => onCode zzz execLrSrlR execLrSrlM s
  | 1 => onCode zzz (execLrBitR yyy) (execLrBitM yyy) s
  | 2 => onCode zzz (execLrResR yyy) (execLrResM yyy) s
  | _ => onCode zzz (execLrSetR yyy) (execLrSetM yyy) s

end Sys2Proof.Machine
end

