-- ==== Sys2Proof/Machine/Dispatch.lean ====
section
/-! DEFINITION. The dispatch from an instruction to its meaning, one arm per constructor. -/

namespace Sys2Proof.Machine

def exec (i : Instr) (s : State) : Host.Outcome State Fault Refusal :=
  match i with
  -- variant C8: control transfer
  | .c8Ret => Sys2Proof.Machine.execC8Ret s
  | .c8Sys nnn => Sys2Proof.Machine.execC8Sys nnn s
  | .c8Jp nnn => Sys2Proof.Machine.execC8Jp nnn s
  | .c8Call nnn => Sys2Proof.Machine.execC8Call nnn s
  | .c8SeImm x kk => Sys2Proof.Machine.execC8SeImm x kk s
  | .c8SneImm x kk => Sys2Proof.Machine.execC8SneImm x kk s
  | .c8SeReg x y => Sys2Proof.Machine.execC8SeReg x y s
  | .c8SneReg x y => Sys2Proof.Machine.execC8SneReg x y s
  | .c8JpV0 nnn => Sys2Proof.Machine.execC8JpV0 nnn s
  | .c8Skp x => Sys2Proof.Machine.execC8Skp x s
  | .c8Sknp x => Sys2Proof.Machine.execC8Sknp x s
  -- variant C8: registers, arithmetic, logic
  | .c8LdImm x kk => Sys2Proof.Machine.execC8LdImm x kk s
  | .c8AddImm x kk => Sys2Proof.Machine.execC8AddImm x kk s
  | .c8LdReg x y => Sys2Proof.Machine.execC8LdReg x y s
  | .c8Or x y => Sys2Proof.Machine.execC8Or x y s
  | .c8And x y => Sys2Proof.Machine.execC8And x y s
  | .c8Xor x y => Sys2Proof.Machine.execC8Xor x y s
  | .c8AddReg x y => Sys2Proof.Machine.execC8AddReg x y s
  | .c8Sub x y => Sys2Proof.Machine.execC8Sub x y s
  | .c8Shr x _ => Sys2Proof.Machine.execC8Shr x s
  | .c8Subn x y => Sys2Proof.Machine.execC8Subn x y s
  | .c8Shl x _ => Sys2Proof.Machine.execC8Shl x s
  | .c8LdI nnn => Sys2Proof.Machine.execC8LdI nnn s
  | .c8Rnd x kk => Sys2Proof.Machine.execC8Rnd x kk s
  | .c8AddI x => Sys2Proof.Machine.execC8AddI x s
  -- variant C8: display, timers, key wait, memory
  | .c8Cls => Sys2Proof.Machine.execC8Cls s
  | .c8Drw x y n => Sys2Proof.Machine.execC8Drw x y n s
  | .c8LdVxDt x => Sys2Proof.Machine.execC8LdVxDt x s
  | .c8LdVxK x => Sys2Proof.Machine.execC8LdVxK x s
  | .c8LdDtVx x => Sys2Proof.Machine.execC8LdDtVx x s
  | .c8LdStVx x => Sys2Proof.Machine.execC8LdStVx x s
  | .c8LdF x => Sys2Proof.Machine.execC8LdF x s
  | .c8LdB x => Sys2Proof.Machine.execC8LdB x s
  | .c8StoreRegs x => Sys2Proof.Machine.execC8StoreRegs x s
  | .c8LoadRegs x => Sys2Proof.Machine.execC8LoadRegs x s
  -- variant LR: 8-bit loads
  | .lrLdRR dst src => Sys2Proof.Machine.execLrLdRR dst src s
  | .lrLdRM dst => Sys2Proof.Machine.execLrLdRM dst s
  | .lrLdMR src => Sys2Proof.Machine.execLrLdMR src s
  | .lrLdRN dst d8 => Sys2Proof.Machine.execLrLdRN dst d8 s
  | .lrLdMN d8 => Sys2Proof.Machine.execLrLdMN d8 s
  | .lrLdABc => Sys2Proof.Machine.execLrLdABc s
  | .lrLdADe => Sys2Proof.Machine.execLrLdADe s
  | .lrLdBcA => Sys2Proof.Machine.execLrLdBcA s
  | .lrLdDeA => Sys2Proof.Machine.execLrLdDeA s
  | .lrLdAA16 a16 => Sys2Proof.Machine.execLrLdAA16 a16 s
  | .lrLdA16A a16 => Sys2Proof.Machine.execLrLdA16A a16 s
  | .lrLdhAA8 a8 => Sys2Proof.Machine.execLrLdhAA8 a8 s
  | .lrLdhA8A a8 => Sys2Proof.Machine.execLrLdhA8A a8 s
  | .lrLdAC => Sys2Proof.Machine.execLrLdAC s
  | .lrLdCA => Sys2Proof.Machine.execLrLdCA s
  | .lrLdHliA => Sys2Proof.Machine.execLrLdHliA s
  | .lrLdAHli => Sys2Proof.Machine.execLrLdAHli s
  | .lrLdHldA => Sys2Proof.Machine.execLrLdHldA s
  | .lrLdAHld => Sys2Proof.Machine.execLrLdAHld s
  -- variant LR: 16-bit loads and stack
  | .lrLdPairN p d16 => Sys2Proof.Machine.execLrLdPairN p d16 s
  | .lrLdA16Sp a16 => Sys2Proof.Machine.execLrLdA16Sp a16 s
  | .lrLdSpHl => Sys2Proof.Machine.execLrLdSpHl s
  | .lrLdHlSp e => Sys2Proof.Machine.execLrLdHlSp e s
  | .lrPush p => Sys2Proof.Machine.execLrPush p s
  | .lrPop p => Sys2Proof.Machine.execLrPop p s
  | .lrPopAf => Sys2Proof.Machine.execLrPopAf s
  -- variant LR: 8-bit arithmetic and logic
  | .lrAddR r => Sys2Proof.Machine.execLrAddR r s
  | .lrAddM => Sys2Proof.Machine.execLrAddM s
  | .lrAddN d8 => Sys2Proof.Machine.execLrAddN d8 s
  | .lrAdcR r => Sys2Proof.Machine.execLrAdcR r s
  | .lrAdcM => Sys2Proof.Machine.execLrAdcM s
  | .lrAdcN d8 => Sys2Proof.Machine.execLrAdcN d8 s
  | .lrSubR r => Sys2Proof.Machine.execLrSubR r s
  | .lrSubM => Sys2Proof.Machine.execLrSubM s
  | .lrSubN d8 => Sys2Proof.Machine.execLrSubN d8 s
  | .lrSbcR r => Sys2Proof.Machine.execLrSbcR r s
  | .lrSbcM => Sys2Proof.Machine.execLrSbcM s
  | .lrSbcN d8 => Sys2Proof.Machine.execLrSbcN d8 s
  | .lrAndR r => Sys2Proof.Machine.execLrAndR r s
  | .lrAndM => Sys2Proof.Machine.execLrAndM s
  | .lrAndN d8 => Sys2Proof.Machine.execLrAndN d8 s
  | .lrXorR r => Sys2Proof.Machine.execLrXorR r s
  | .lrXorM => Sys2Proof.Machine.execLrXorM s
  | .lrXorN d8 => Sys2Proof.Machine.execLrXorN d8 s
  | .lrOrR r => Sys2Proof.Machine.execLrOrR r s
  | .lrOrM => Sys2Proof.Machine.execLrOrM s
  | .lrOrN d8 => Sys2Proof.Machine.execLrOrN d8 s
  | .lrCpR r => Sys2Proof.Machine.execLrCpR r s
  | .lrCpM => Sys2Proof.Machine.execLrCpM s
  | .lrCpN d8 => Sys2Proof.Machine.execLrCpN d8 s
  | .lrIncR r => Sys2Proof.Machine.execLrIncR r s
  | .lrIncM => Sys2Proof.Machine.execLrIncM s
  | .lrDecR r => Sys2Proof.Machine.execLrDecR r s
  | .lrDecM => Sys2Proof.Machine.execLrDecM s
  | .lrDaa => Sys2Proof.Machine.execLrDaa s
  | .lrCpl => Sys2Proof.Machine.execLrCpl s
  | .lrScf => Sys2Proof.Machine.execLrScf s
  | .lrCcf => Sys2Proof.Machine.execLrCcf s
  -- variant LR: 16-bit arithmetic
  | .lrAddHl p => Sys2Proof.Machine.execLrAddHl p s
  | .lrIncPair p => Sys2Proof.Machine.execLrIncPair p s
  | .lrDecPair p => Sys2Proof.Machine.execLrDecPair p s
  | .lrAddSp e => Sys2Proof.Machine.execLrAddSp e s
  -- variant LR: rotates, shifts, bits
  | .lrRlca => Sys2Proof.Machine.execLrRlca s
  | .lrRrca => Sys2Proof.Machine.execLrRrca s
  | .lrRla => Sys2Proof.Machine.execLrRla s
  | .lrRra => Sys2Proof.Machine.execLrRra s
  | .lrRlcR r => Sys2Proof.Machine.execLrRlcR r s
  | .lrRlcM => Sys2Proof.Machine.execLrRlcM s
  | .lrRrcR r => Sys2Proof.Machine.execLrRrcR r s
  | .lrRrcM => Sys2Proof.Machine.execLrRrcM s
  | .lrRlR r => Sys2Proof.Machine.execLrRlR r s
  | .lrRlM => Sys2Proof.Machine.execLrRlM s
  | .lrRrR r => Sys2Proof.Machine.execLrRrR r s
  | .lrRrM => Sys2Proof.Machine.execLrRrM s
  | .lrSlaR r => Sys2Proof.Machine.execLrSlaR r s
  | .lrSlaM => Sys2Proof.Machine.execLrSlaM s
  | .lrSraR r => Sys2Proof.Machine.execLrSraR r s
  | .lrSraM => Sys2Proof.Machine.execLrSraM s
  | .lrSwapR r => Sys2Proof.Machine.execLrSwapR r s
  | .lrSwapM => Sys2Proof.Machine.execLrSwapM s
  | .lrSrlR r => Sys2Proof.Machine.execLrSrlR r s
  | .lrSrlM => Sys2Proof.Machine.execLrSrlM s
  | .lrBitR b r => Sys2Proof.Machine.execLrBitR b r s
  | .lrBitM b => Sys2Proof.Machine.execLrBitM b s
  | .lrResR b r => Sys2Proof.Machine.execLrResR b r s
  | .lrResM b => Sys2Proof.Machine.execLrResM b s
  | .lrSetR b r => Sys2Proof.Machine.execLrSetR b r s
  | .lrSetM b => Sys2Proof.Machine.execLrSetM b s
  | .lrPrefixCb b1 => Sys2Proof.Machine.execLrPrefixCb b1 s
  -- variant LR: control transfer, interrupt control, halt, stop
  | .lrNop => Sys2Proof.Machine.execLrNop s
  | .lrJp a16 => Sys2Proof.Machine.execLrJp a16 s
  | .lrJpCc cc a16 => Sys2Proof.Machine.execLrJpCc cc a16 s
  | .lrJpHl => Sys2Proof.Machine.execLrJpHl s
  | .lrJr e => Sys2Proof.Machine.execLrJr e s
  | .lrJrCc cc e => Sys2Proof.Machine.execLrJrCc cc e s
  | .lrCall a16 => Sys2Proof.Machine.execLrCall a16 s
  | .lrCallCc cc a16 => Sys2Proof.Machine.execLrCallCc cc a16 s
  | .lrRet => Sys2Proof.Machine.execLrRet s
  | .lrRetCc cc => Sys2Proof.Machine.execLrRetCc cc s
  | .lrReti => Sys2Proof.Machine.execLrReti s
  | .lrRst n => Sys2Proof.Machine.execLrRst n s
  | .lrDi => Sys2Proof.Machine.execLrDi s
  | .lrEi => Sys2Proof.Machine.execLrEi s
  | .lrHalt => Sys2Proof.Machine.execLrHalt s
  | .lrStop _ => Sys2Proof.Machine.execLrStop s

end Sys2Proof.Machine
end

