-- ==== Sys2Proof/Machine/Phases.lean ====
section
/-! DEFINITION. The phases of the `STEP` command (R130): the gates (R131), the skip (R136), the undoing of
a failed instruction (R138) and the instruction phases P5 to P9. -/

namespace Sys2Proof.Machine

/-- Is the status `Crashed`? -/
def isCrashed : Status → Bool
  | .crashed _ => true
  | _ => false

/-- Is the status `Halted` or `Stopped` (R398)? -/
def isWaiting : Status → Bool
  | .halted | .stopped => true
  | _ => false

/-- Phase P1, the crash gate (R131): nothing changes, the answer is the failure first raised. -/
def crashGate (s : State) : State :=
  match s.status with
  | .crashed f => s.respond (.err f)
  | _ => s

/-- Phase P3, the idle gate (R131): nothing changes, the answer is `Ok(IDLE)`. -/
def idleStep (s : State) : State :=
  s.respond (.cycles (idleCycles s.config.system))

/-- Is the decoded instruction stepped over (R136)? Variant LR only. -/
def State.skips (s : State) : Bool :=
  match s.config.system with
  | .c8 => false
  | .lr => s.lr.skipNext

/-- The skip of variant LR (R136): the pc has passed the instruction, nothing of it is performed, the
answer is its not-taken cycle count. -/
def skipStep (i : Instr) (s : State) : State :=
  ((s.advanceLr i.length).setSkipNext false).respond (.cycles (notTakenCycles i))

/-- The end of phase P8 (R138): where the instruction failed, every change of the phases P4 to P8 is
discarded; `s` is the state before them with `last_opcode` as P6 wrote it. -/
def settle (s : State) (o : Out) : Out :=
  match o with
  | .next t =>
    match t.status with
    | .crashed f => .next (s.crash f)
    | _ => .next t
  | _ => o

/-- Phases P5 to P9 (R130) of a step that starts an instruction in `s`: the EI commit (R132), the fetch
and decode (R133, R134, R141), and the skip (R136) or the instruction (R135, R137); a failure discards
the EI commit as well (R138). -/
def instructionStep (s : State) : Out :=
  let p5 := s.commitEi
  match p5.fetchBytes with
  | .error f => .next (s.crash f)
  | .ok bytes =>
    match decode s.config.system bytes with
    | .error _ => .next ((s.recordFetch s.pc bytes).crash (.unrecognizedOpcode s.pc bytes))
    | .ok (i, _) =>
      let p6 := p5.recordFetch s.pc bytes
      if p6.skips then .next (skipStep i p6)
      else settle (s.recordFetch s.pc bytes) (exec i p6)

/-- Is an interrupt dispatched in phase P4 (R385)? Variant LR only (R390). -/
def State.dispatches (s : State) : Bool :=
  match s.config.system with
  | .c8 => false
  | .lr => s.interruptDue

/-- The phases from P3 on, in the state the wake check leaves (R130, R131). -/
def afterWake (s : State) : Out :=
  if isWaiting s.status then .next (idleStep s)
  else if s.dispatches then s.takeInterrupt
  else instructionStep s

/-- The `STEP` command (R130): the crash gate (P1), the wake check (P2) and the rest. -/
def stepCommand (s : State) : Out :=
  if isCrashed s.status then .next (crashGate s) else afterWake s.wakeCheck

/-- What `withFetchWord` makes true besides placing bytes, so that the very next step starts an
instruction: the status is Running, no skip is armed and no interrupt is dispatched (log 16). -/
def State.readyToFetch (s : State) : State :=
  ((s.setStatus .running).setSkipNext false).setIme (s.lr.ime && !s.pending)

/-- The state with an instruction of the opcode table placed where it is fetched next (log 15, log 16). -/
def State.placeTableWord (s : State) (nbits w : Nat) : State :=
  let t := { s with config := { s.config with system := tableSystem nbits } }
  (t.placeBytes (tableBytes nbits w)).readyToFetch

end Sys2Proof.Machine
end

