-- ==== Sys2Proof/Machine/Step.lean ====
section
/-! DEFINITION. One step of the machine: the `STEP` command of the host (R5, R130). -/

namespace Sys2Proof.Machine

/-- One step: the `STEP` command (R130). -/
def step (s : State) : Host.Outcome State Fault Refusal :=
  stepCommand s

/-- The state with the instruction of the opcode table whose bits are `w` placed so that the very next
step runs it (log 15, log 16). -/
def State.withFetchWord (s : State) (nbits w : Nat) : State :=
  s.placeTableWord nbits w

end Sys2Proof.Machine
end

