-- ==== Sys2Proof/Machine/Commands.lean ====
section
/-! DEFINITION. The host's commands (R5): `RESET` (R420), `LOAD` (R424), `STEP` (R130), `UPDATE_TIMERS`
(R400, R401), `SET_INPUT` (R404, R405), `RAISE_IRQ` (R387), `READ_FRAMEBUFFER` (R91, R92) and `SNAPSHOT`
(R410). -/

namespace Sys2Proof.Machine

/-- The commands a host gives, one at a time (R5, R6). -/
inductive Command where
  | reset
  | load (image : List Byte)
  | step
  | updateTimers (ticks : Nat)
  | setInput (vec : List Bool)
  | raiseIrq (k : Nat)
  | readFramebuffer
  | snapshot
  deriving DecidableEq, Repr

/-- `RESET` (R420): every piece of state of the instance takes its reset value; the configuration is kept
(R422), and so is the count of draws, which is no state of the instance (U3, log 18). -/
def resetCommand (s : State) : State :=
  { State.resetOf s.config with draws := s.draws }

/-- `LOAD_BASE` (R7, R424). -/
def loadBase : System → Nat
  | .c8 => 0x200
  | .lr => 0x0000

/-- `IMAGE_MAX` (R7, R424). -/
def imageMax : System → Nat
  | .c8 => 3584
  | .lr => 32768

/-- Copy an image to `LOAD_BASE` without the protection check (R79, R424). -/
def placeImage (s : State) (image : List Byte) : State :=
  match s.config.system with
  | .c8 => s.setC8Mem (writeCells unlistedC8 s.c8.mem (loadBase .c8) image)
  | .lr => s.setLrMem (writeCells unlistedLr s.lr.mem (loadBase .lr) image)

/-- `LOAD(image)` (R424, R425). -/
def loadCommand (image : List Byte) (s : State) : State :=
  if imageMax s.config.system < image.length then s.respond (.err (.invalidRom image.length))
  else (placeImage (resetCommand s) image).respond .loaded

/-- A timer after `n` ticks: clamped at zero (R26, R400). -/
def tick (t : Byte) (n : Nat) : Byte :=
  BitVec.ofNat 8 (t.toNat - n)

/-- `UPDATE_TIMERS(n)` (R400, R401): on variant LR the wake check only. -/
def updateTimersCommand (n : Nat) (s : State) : State :=
  match s.config.system with
  | .c8 => (((s.setDt (tick s.c8.dt n)).setSt (tick s.c8.st n)).wakeC8).respond .none
  | .lr => s.wakeLr.respond .none

/-- Is some button newly pressed (R405)? -/
def newPress (old new : Vector Bool 8) : Bool :=
  (List.finRange 8).any (fun k => new[k.val] && !old[k.val])

/-- Is some button held (R397)? -/
def anyHeld (b : Vector Bool 8) : Bool :=
  (List.finRange 8).any (fun k => b[k.val])

/-- The wake from `Stopped` (R397). -/
def State.wakeStopped (s : State) (vec : Vector Bool 8) : State :=
  if s.status = .stopped ∧ anyHeld vec = true then s.setStatus .running else s

/-- `SET_INPUT(vec)` of variant LR (R405): the request of source 4, the two wakes. -/
def setInputLr (vec : Vector Bool 8) (s : State) : State :=
  let t := s.setButtons vec
  let u := if newPress s.lr.buttons vec then t.requestIrq 4 else t
  (u.wakeStopped vec).wakeLr

/-- `SET_INPUT(vec)` (R404, R405); a vector of another length is refused (U12). -/
def setInputCommand (vec : List Bool) (s : State) : Out :=
  match s.config.system with
  | .c8 =>
    if h : vec.length = 16 then
      .next (((s.setKeys ⟨vec.toArray, by simpa using h⟩).wakeC8).respond .none)
    else .refused (.inputLength vec.length)
  | .lr =>
    if h : vec.length = 8 then .next ((setInputLr ⟨vec.toArray, by simpa using h⟩ s).respond .none)
    else .refused (.inputLength vec.length)

/-- `RAISE_IRQ(k)` (R387); refused on variant C8 and for `k` outside 0..4 (U12). -/
def raiseIrqCommand (k : Nat) (s : State) : Out :=
  match s.config.system with
  | .c8 => .refused (.noSuchIrq k)
  | .lr => if k < 5 then .next (((s.requestIrq k).wakeLr).respond .none) else .refused (.noSuchIrq k)

/-- The presented value of a pixel (R91). -/
def pixelColor (on : Bool) : BitVec 32 :=
  if on then Config.colorOn else Config.colorOff

/-- The 2048 values of a framebuffer, row-major (R91). -/
def presentFb (fb : Framebuffer) : List (BitVec 32) :=
  fb.toList.flatMap (fun row => row.toList.map pixelColor)

/-- `READ_FRAMEBUFFER` (R91); refused on variant LR (R92). -/
def readFramebufferCommand (s : State) : Out :=
  match s.config.system with
  | .c8 => .next (s.respond (.pixels 64 32 (presentFb s.c8.fb)))
  | .lr => .refused .noFramebuffer

/-- The copy `SNAPSHOT` returns (R410). -/
def snapshotOf (s : State) : Snapshot :=
  match s.config.system with
  | .c8 => .c8 s.c8 s.status s.lastOpcode
  | .lr => .lr s.lr s.status s.lastOpcode

/-- `SNAPSHOT` (R410): changes no state. -/
def snapshotCommand (s : State) : State :=
  s.respond (.snapshot (snapshotOf s))

/-- One command of the host (R5). -/
def command (c : Command) (s : State) : Out :=
  match c with
  | .reset => .next (resetCommand s)
  | .load image => .next (loadCommand image s)
  | .step => step s
  | .updateTimers n => .next (updateTimersCommand n s)
  | .setInput vec => setInputCommand vec s
  | .raiseIrq k => raiseIrqCommand k s
  | .readFramebuffer => readFramebufferCommand s
  | .snapshot => .next (snapshotCommand s)

/-- Commands one after another, up to the first that is refused (R6). -/
def commands : List Command → State → Out
  | [], s => .next s
  | c :: cs, s =>
    match command c s with
    | .next t => commands cs t
    | .fault r => .fault r
    | .refused r => .refused r

end Sys2Proof.Machine
end

