-- ==== Sys2Proof/Safety.lean ====
section
/-! DEFINITION. What counts as a well-formed state and as a safe run, in the terms claims use. -/

namespace Sys2Proof.Machine

/-- The memory of both variants is in its canonical form, within the address space (R70, R71). -/
abbrev State.MemWf (s : State) : Prop :=
  MemoryWf unlistedC8 (memSize .c8) s.c8.mem ∧ MemoryWf unlistedLr (memSize .lr) s.lr.mem

/-- Bits 7..4 of `F` are 0 (R43). -/
abbrev State.FlagsWf (s : State) : Prop :=
  s.lr.f &&& 0xF0#8 = 0x00#8

/-- The failures `STEP` can raise (R370): the names of R375 to R379 are not among them. -/
def raisedByStep : Failure → Bool
  | .unrecognizedOpcode _ _ | .invalidOpcodeUsage _ | .invalidStackAccess _ | .invalidMemoryAccess _ => true
  | .invalidRegisterIndex _ | .aluError | .custom _ | .invalidRom _ | .romIoError => false

/-- The status is one the instance's variant can have (R61, R372): a crash has a cause that `STEP` raises,
variant C8 is never `Stopped`, variant LR never meets `InvalidOpcodeUsage`. -/
def State.StatusWf (s : State) : Bool :=
  match s.config.system, s.status with
  | _, .running | _, .halted => true
  | .c8, .stopped => false
  | .lr, .stopped => true
  | .lr, .crashed (.invalidOpcodeUsage _) => false
  | _, .crashed f => raisedByStep f

/-- The invariant of the machine. -/
abbrev State.Inv (s : State) : Prop :=
  s.MemWf ∧ s.FlagsWf ∧ s.StatusWf = true

/-- A state reached safely: no failure has been raised (R60). -/
def State.Safe (s : State) : Prop :=
  isCrashed s.status = false

/-- `t` is `s` but for the tuple of the variant the instance is not. -/
def State.SameInstance (s t : State) : Prop :=
  s.config = t.config ∧ s.status = t.status ∧ s.lastOpcode = t.lastOpcode ∧ s.response = t.response ∧
    s.draws = t.draws ∧ (s.config.system = .c8 → s.c8 = t.c8) ∧ (s.config.system = .lr → s.lr = t.lr)

/-! ## What a statement says an instruction leaves unchanged -/

/-- The parts of the state a frame speaks of: every piece of state of both variants (R20, R60, R62), the
configuration and the count of draws; not the model's own `response`. -/
inductive Part where
  | config
  | status
  | lastOpcode
  | draws
  | v (x : VReg)
  | i
  | c8Pc
  | c8Sp
  | stack (k : Fin 16)
  | dt
  | st
  | c8Mem (a : Nat)
  | fb
  | keys
  | waitReg
  | reg (r : Reg8)
  | flags
  | sp
  | lrPc
  | ime
  | eiPending
  | skipNext
  | lrMem (a : Word)
  | buttons
  deriving DecidableEq, Repr

/-- The part holds the same value in `t` as in `s`; a byte of memory is compared by reading it. -/
def Part.Same (s t : State) : Part → Prop
  | .config => t.config = s.config
  | .status => t.status = s.status
  | .lastOpcode => t.lastOpcode = s.lastOpcode
  | .draws => t.draws = s.draws
  | .v x => t.vx x = s.vx x
  | .i => t.c8.i = s.c8.i
  | .c8Pc => t.c8.pc = s.c8.pc
  | .c8Sp => t.c8.sp = s.c8.sp
  | .stack k => t.c8.stack[k.val] = s.c8.stack[k.val]
  | .dt => t.c8.dt = s.c8.dt
  | .st => t.c8.st = s.c8.st
  | .c8Mem a => t.c8Byte a = s.c8Byte a
  | .fb => t.c8.fb = s.c8.fb
  | .keys => t.c8.keys = s.c8.keys
  | .waitReg => t.c8.waitReg = s.c8.waitReg
  | .reg r => t.reg r = s.reg r
  | .flags => t.lr.f = s.lr.f
  | .sp => t.lr.sp = s.lr.sp
  | .lrPc => t.lr.pc = s.lr.pc
  | .ime => t.lr.ime = s.lr.ime
  | .eiPending => t.lr.eiPending = s.lr.eiPending
  | .skipNext => t.lr.skipNext = s.lr.skipNext
  | .lrMem a => t.lrRead a = s.lrRead a
  | .buttons => t.lr.buttons = s.lr.buttons

/-- The frame: every part that is not listed is unchanged from `s` to `t`. -/
def State.Frame (s : State) (written : List Part) (t : State) : Prop :=
  ∀ p, p ∉ written → p.Same s t

/-- The end of an instruction of variant C8 that falls through (R135, R140). -/
def State.C8Next (s t : State) : Prop :=
  t.response = .cycles 1 ∧ t.c8.pc = s.c8.pc + 2#16

/-- The end of an instruction of variant LR of `len` bytes and `cycles` cycles that falls through
(R135, R140). -/
def State.LrNext (s t : State) (len cycles : Nat) : Prop :=
  t.response = .cycles cycles ∧ t.lr.pc = s.lr.pc + BitVec.ofNat 16 len

/-- The value of `F` with the four flags given: Z, N, H, C in bits 3..0, bits 7..4 zero (R43). -/
def State.HasFlags (t : State) (z n h c : Bool) : Prop :=
  t.lr.f.toNat = 8 * z.toNat + 4 * n.toNat + 2 * h.toNat + c.toNat

/-- The parts that make up a register pair (R42). -/
def pairParts : Pair → List Part
  | .bc => [.reg .b, .reg .c]
  | .de => [.reg .d, .reg .e]
  | .hl => [.reg .h, .reg .l]
  | .sp => [.sp]

/-- The parts that make up a pair of `PUSH` and `POP` (R42). -/
def stackPairParts : StackPair → List Part
  | .bc => [.reg .b, .reg .c]
  | .de => [.reg .d, .reg .e]
  | .hl => [.reg .h, .reg .l]
  | .af => [.reg .a, .flags]

/-- The parts an operand form writes (R115). -/
def operandParts (s : State) : Operand8 → List Part
  | .reg r => [.reg r]
  | .atHl => [.lrMem s.hl]

/-- Can the operand be written: is it a register, or a byte that is not protected (R75, R115)? -/
def State.Writable (s : State) : Operand8 → Prop
  | .reg _ => True
  | .atHl => s.readOnlyAt s.hl.toNat = false

/-! ## Shapes of effect -/

/-- `exec i` at `s` writes `val` to `V[x]` and nothing else, and falls through. -/
def WritesV (i : Instr) (s : State) (x : VReg) (val : Byte) : Prop :=
  ∃ t, exec i s = .next t ∧ s.C8Next t ∧ t.vx x = val ∧ s.Frame [.c8Pc, .v x] t

/-- `exec i` at `s` leaves the flag in VF, the result in `V[x]` where `x` is not VF (R22), and writes
nothing else. -/
def WritesVF (i : Instr) (s : State) (x : VReg) (result : Nat) (flag : Bool) : Prop :=
  ∃ t, exec i s = .next t ∧ s.C8Next t ∧ (t.vx 15).toNat = flag.toNat ∧
    (x ≠ 15 → (t.vx x).toNat = result) ∧ s.Frame [.c8Pc, .v x, .v 15] t

/-- `exec i` at `s` passes the next word where `c` holds (R154 to R159) and writes nothing but the pc. -/
def SkipsWhen (i : Instr) (s : State) (c : Bool) : Prop :=
  ∃ t, exec i s = .next t ∧ t.response = .cycles 1 ∧
    t.c8.pc = s.c8.pc + (if c then 4#16 else 2#16) ∧ s.Frame [.c8Pc] t

/-- `exec i` at `s` writes `val` to a register of variant LR and nothing else, and falls through. -/
def WritesReg (i : Instr) (s : State) (len cycles : Nat) (r : Reg8) (val : Byte) : Prop :=
  ∃ t, exec i s = .next t ∧ s.LrNext t len cycles ∧ t.reg r = val ∧ s.Frame [.lrPc, .reg r] t

/-- `exec i` at `s` stores `val` at `a` and does nothing else, and falls through. -/
def StoresByte (i : Instr) (s : State) (len cycles : Nat) (a : Word) (val : Byte) : Prop :=
  ∃ t, exec i s = .next t ∧ s.LrNext t len cycles ∧ t.lrRead a = val ∧ s.Frame [.lrPc, .lrMem a] t

/-- `exec i` at `s` leaves `result` in A and the four flags, and writes nothing else. -/
def WritesAcc (i : Instr) (s : State) (len cycles : Nat) (result : Byte) (z n h c : Bool) : Prop :=
  ∃ t, exec i s = .next t ∧ s.LrNext t len cycles ∧ t.lr.a = result ∧ t.HasFlags z n h c ∧
    s.Frame [.lrPc, .reg .a, .flags] t

/-- `exec i` at `s` leaves the four flags and writes nothing else. -/
def WritesFlags (i : Instr) (s : State) (len cycles : Nat) (z n h c : Bool) : Prop :=
  ∃ t, exec i s = .next t ∧ s.LrNext t len cycles ∧ t.HasFlags z n h c ∧ s.Frame [.lrPc, .flags] t

/-- `exec i` at `s` leaves `result` in its operand and the four flags, and writes nothing else. -/
def WritesOperand (i : Instr) (s : State) (len cycles : Nat) (o : Operand8) (result : Byte) (z n h c : Bool) :
    Prop :=
  ∃ t, exec i s = .next t ∧ s.LrNext t len cycles ∧
    (∀ r, o = .reg r → t.reg r = result) ∧ (o = .atHl → t.lrRead s.hl = result) ∧ t.HasFlags z n h c ∧
    s.Frame (.lrPc :: .flags :: operandParts s o) t

/-- `exec i` at `s` leaves `result` in its operand and writes nothing else, no flag either. -/
def WritesOperandOnly (i : Instr) (s : State) (len cycles : Nat) (o : Operand8) (result : Byte) : Prop :=
  ∃ t, exec i s = .next t ∧ s.LrNext t len cycles ∧
    (∀ r, o = .reg r → t.reg r = result) ∧ (o = .atHl → t.lrRead s.hl = result) ∧
    s.Frame (.lrPc :: operandParts s o) t

/-- `exec i` at `s` goes to `target` with `cycles` cycles and writes nothing but the pc. -/
def JumpsTo (i : Instr) (s : State) (cycles : Nat) (target : Word) : Prop :=
  ∃ t, exec i s = .next t ∧ t.response = .cycles cycles ∧ t.lr.pc = target ∧ s.Frame [.lrPc] t

/-- Can two bytes be pushed at `s` (R82): is the pointer at least 2 and neither byte protected? -/
def State.CanPush (s : State) : Prop :=
  2 ≤ s.lr.sp.toNat ∧ s.readOnlyAt (s.lr.sp - 2#16).toNat = false ∧ s.readOnlyAt (s.lr.sp - 1#16).toNat = false

/-- `t` is what `Push16(v)` leaves of `SP` and the two bytes below it (R82). -/
def State.Pushed (s t : State) (v : Word) : Prop :=
  t.lr.sp = s.lr.sp - 2#16 ∧ t.lrRead (s.lr.sp - 1#16) = hiByte v ∧ t.lrRead (s.lr.sp - 2#16) = loByte v

/-- The parts a push writes. -/
def State.pushParts (s : State) : List Part :=
  [.sp, .lrMem (s.lr.sp - 1#16), .lrMem (s.lr.sp - 2#16)]

/-- `exec i` at `s`, of `len` bytes, pushes the address after it, goes to `target` and writes nothing
else. -/
def CallsTo (i : Instr) (s : State) (len cycles : Nat) (target : Word) : Prop :=
  ∃ t, exec i s = .next t ∧ t.response = .cycles cycles ∧ t.lr.pc = target ∧
    s.Pushed t (s.lr.pc + BitVec.ofNat 16 len) ∧ s.Frame (.lrPc :: s.pushParts) t

/-- The 16-bit value on top of the stack (R83). -/
def State.top16 (s : State) : Word :=
  s.lrRead (s.lr.sp + 1#16) ++ s.lrRead s.lr.sp

/-- `exec i` at `s` pops the pc and writes nothing else but the listed parts. -/
def ReturnsWith (i : Instr) (s : State) (cycles : Nat) (also : List Part) (post : State → Prop) : Prop :=
  ∃ t, exec i s = .next t ∧ t.response = .cycles cycles ∧ t.lr.pc = s.top16 ∧ t.lr.sp = s.lr.sp + 2#16 ∧
    post t ∧ s.Frame (.lrPc :: .sp :: also) t

/-! ## Runs and draws -/

/-- Instructions one after another, up to the first that is refused. -/
def execAll : List Instr → State → Out
  | [], s => .next s
  | i :: is, s =>
    match exec i s with
    | .next t => execAll is t
    | .fault r => .fault r
    | .refused r => .refused r

/-- The bit a sprite of `n` rows at `I` has at pixel `(px, py)` when drawn at `(x, y)` (R201): the sprite
row is `(py - y) mod 32` and the column `(px - x) mod 64`. -/
def State.spriteBit (s : State) (x y n : Nat) (px : Fin 64) (py : Fin 32) : Bool :=
  let row := (py.val + 32 - y % 32) % 32
  let col := (px.val + 64 - x % 64) % 64
  decide (row < n) && decide (col < 8) && (s.c8Byte (s.c8.i.toNat + row)).getLsbD (7 - col)

/-- The first address from `a` on, among `n`, that `fails`: `a + k`. -/
def FirstFailure (fails : Nat → Bool) (a n k : Nat) : Prop :=
  k < n ∧ fails (a + k) = true ∧ ∀ j < k, fails (a + j) = false

end Sys2Proof.Machine
end

