-- ==== Sys2Proof/Certificates/Slice0/Obligations.lean ====
section
/-! DEFINITION. The statements for the provers, each with the rules of spec/ it formalises. The shapes of
effect (`WritesV`, `StoresByte`, `CallsTo`, ...) and the frame (`State.Frame`) are defined in
`Sys2Proof/Safety.lean`. -/

open Sys2Proof Sys2Proof.Machine

/-! ## Encoding -/

/-- Every well-formed instruction of both variants is read back from its encoding, whatever bytes follow
(R101, R103, R107, R110, R112). -/
def Obligations.DecodeEncode : Prop :=
  ∀ (i : Instr) (rest : List Byte), i.wf = true → decode i.system (encode i ++ rest) = .ok (i, rest)

/-- The other direction: what decodes is a well-formed instruction of the variant, and the bytes are its
encoding followed by the rest, so no two encodings mean the same term and no bit is dropped. -/
def Obligations.EncodeDecode : Prop :=
  ∀ (sys : System) (bytes rest : List Byte) (i : Instr), decode sys bytes = .ok (i, rest) →
    i.wf = true ∧ i.system = sys ∧ bytes = encode i ++ rest

/-- R104: the words of variant C8 that no row but the `SYS` row matches, by their fields. -/
def Obligations.UnassignedWords : Prop :=
  ∀ w : Word,
    decodeWord w = none ↔
      let op := w.toNat / 4096
      let n := w.toNat % 16
      let kk := w.toNat % 256
      (op = 0x5 ∧ n ≠ 0) ∨ (op = 0x8 ∧ n ∈ [0x8, 0x9, 0xA, 0xB, 0xC, 0xD, 0xF]) ∨ (op = 0x9 ∧ n ≠ 0) ∨
      (op = 0xE ∧ kk ∉ [0x9E, 0xA1]) ∨
      (op = 0xF ∧ kk ∉ [0x07, 0x0A, 0x15, 0x18, 0x1E, 0x29, 0x33, 0x55, 0x65])

/-- R113, R111: a first byte of variant LR starts no instruction exactly if it is one of the eleven; any
other starts one whatever bytes follow, of the length the first byte alone gives. -/
def Obligations.UnassignedFirstBytes : Prop :=
  ∀ b0 : Byte,
    (b0 ∈ [0xD3#8, 0xDB#8, 0xDD#8, 0xE3#8, 0xE4#8, 0xEB#8, 0xEC#8, 0xED#8, 0xF4#8, 0xFC#8, 0xFD#8] →
      ∀ rest, decode .lr (b0 :: rest) = .error (.unassignedByte b0)) ∧
    (b0 ∉ [0xD3#8, 0xDB#8, 0xDD#8, 0xE3#8, 0xE4#8, 0xEB#8, 0xEC#8, 0xED#8, 0xF4#8, 0xFC#8, 0xFD#8] →
      ∀ b1 b2 rest, ∃ i, decode .lr (b0 :: b1 :: b2 :: rest) =
        .ok (i, (b1 :: b2 :: rest).drop (lengthByFirst b0 - 1)) ∧ i.length = lengthByFirst b0)

/-- A few words written out from the encodings of R103, R110 and R112 (sanity). -/
def Obligations.DecodeWords : Prop :=
  decode .c8 [0x23#8, 0x45#8] = .ok (.c8Call 0x345#12, []) ∧
  decode .c8 [0x8A#8, 0xB7#8] = .ok (.c8Subn 0xA 0xB, []) ∧
  decode .c8 [0xD1#8, 0x2F#8] = .ok (.c8Drw 1 2 15, []) ∧
  decode .lr [0x7A#8] = .ok (.lrLdRR .a .d, []) ∧
  decode .lr [0x31#8, 0x34#8, 0x12#8] = .ok (.lrLdPairN .sp 0x1234#16, []) ∧
  decode .lr [0x9E#8] = .ok (.lrSbcM, []) ∧
  decode .lr [0x29#8] = .ok (.lrAddHl .hl, []) ∧
  decode .lr [0xCB#8, 0x6D#8] = .ok (.lrBitR 5 .l, []) ∧
  decode .lr [0xDC#8, 0x01#8, 0x80#8] = .ok (.lrCallCc .c 0x8001#16, [])

/-! ## Invariants and the step as a whole -/

/-- The invariant (memory canonical, bits 7..4 of `F` zero, a legal status) is kept by every step (R43,
R61, R370). -/
def Obligations.StepKeepsInv : Prop :=
  ∀ s t : State, s.Inv → step s = .next t → t.Inv

/-- The invariant holds after reset, in every configuration. -/
def Obligations.ResetHasInv : Prop :=
  State.reset.Inv ∧ ∀ c : Configuration, (State.resetOf c).Inv

/-- Every step answers a next state, from every state: the core "never panics or aborts" (R138). -/
def Obligations.StepAnswers : Prop :=
  ∀ s : State, ∃ t, step s = .next t ∧
    ((∃ n, t.response = .cycles n ∧ isCrashed t.status = false) ∨
     (∃ f, t.response = .err f ∧ t.status = .crashed f))

/-- R138: a step that fails has no effect but the status and `last_opcode`; a change made by the wake
check is kept. -/
def Obligations.FailureIsAtomic : Prop :=
  ∀ (s t : State) (f : Failure), s.Safe → step s = .next t → t.status = .crashed f →
    t.response = .err f ∧ t.c8 = s.wakeCheck.c8 ∧ t.lr = s.wakeCheck.lr ∧ t.draws = s.draws ∧
    t.config = s.config

/-- R131, the gates: from `Crashed(f)` a step changes nothing and answers `Err(f)`, as often as it is given;
where the wake check leaves a waiting status, nothing more changes and the answer is `Ok(IDLE)`: 0 for C8, 4
for LR. -/
def Obligations.StepGates : Prop :=
  (∀ (s : State) (f : Failure) (n : Nat), s.status = .crashed f →
    commands (List.replicate (n + 1) .step) s = .next { s with response := .err f }) ∧
  (∀ s : State, s.wakeCheck.status = .halted ∨ s.wakeCheck.status = .stopped →
    step s = .next { s with response := .cycles (match s.config.system with | .c8 => 0 | .lr => 4) })

/-- R61: the edges of the status a step can take: none out of `Crashed` and `Stopped`, out of `Halted` only by
the wake check, into `Crashed` only where an instruction or a dispatch is started, into `Stopped` only on
variant LR. -/
def Obligations.StatusEdges : Prop :=
  ∀ s t : State, step s = .next t →
    (∀ f, s.status = .crashed f → t.status = .crashed f) ∧
    (s.status = .stopped → t.status = .stopped) ∧
    (s.status = .halted → s.wakeCheck.status ≠ .running → t.status = .halted) ∧
    (∀ f, t.status = .crashed f → s.status ≠ .crashed f → s.wakeCheck.status = .running) ∧
    (t.status = .stopped → s.status ≠ .stopped → s.config.system = .lr)

/-- A step never changes the configuration (R1) nor the tuple of the other variant, and the host's part
of the state (`keys`, `buttons`) is written by no step (R28, R50). -/
def Obligations.StepStaysInVariant : Prop :=
  ∀ s t : State, step s = .next t →
    t.config = s.config ∧ t.c8.keys = s.c8.keys ∧ t.lr.buttons = s.lr.buttons ∧
    (s.config.system = .c8 → t.lr = s.lr) ∧ (s.config.system = .lr → t.c8 = s.c8 ∧ t.draws = s.draws)

/-- What a step does on an instance does not depend on the tuple of the other variant (R20). -/
def Obligations.OtherVariantInvisible : Prop :=
  ∀ s t s' : State, s.SameInstance t → step s = .next s' → ∃ t', step t = .next t' ∧ s'.SameInstance t'

/-- Which instructions of variant C8 write which state (R23, R25, R26, R27, R29, R90): everything else of
the variant's special state is written by no other instruction. -/
def Obligations.C8Writers : Prop :=
  ∀ (i : Instr) (s t : State), exec i s = .next t →
    (t.c8.i ≠ s.c8.i → (∃ nnn, i = .c8LdI nnn) ∨ (∃ x, i = .c8AddI x) ∨ ∃ x, i = .c8LdF x) ∧
    (t.c8.sp ≠ s.c8.sp → (∃ nnn, i = .c8Call nnn) ∨ i = .c8Ret) ∧
    (t.c8.stack ≠ s.c8.stack → ∃ nnn, i = .c8Call nnn) ∧
    (t.c8.dt ≠ s.c8.dt → ∃ x, i = .c8LdDtVx x) ∧
    (t.c8.st ≠ s.c8.st → ∃ x, i = .c8LdStVx x) ∧
    (t.c8.fb ≠ s.c8.fb → i = .c8Cls ∨ ∃ x y n, i = .c8Drw x y n) ∧
    (t.c8.mem ≠ s.c8.mem → (∃ x, i = .c8LdB x) ∨ ∃ x, i = .c8StoreRegs x) ∧
    (t.c8.waitReg ≠ s.c8.waitReg → ∃ x, i = .c8LdVxK x) ∧
    (t.status = .halted → s.status ≠ .halted → (∃ x, i = .c8LdVxK x) ∨ i = .lrHalt)

/-- Which instructions of variant LR write `SP` (R44), `IME` (R46), `ei_pending` (R48), `skip_next` (R49)
and the status (R61). -/
def Obligations.LrWriters : Prop :=
  ∀ (i : Instr) (s t : State), exec i s = .next t →
    (t.lr.sp ≠ s.lr.sp →
      (∃ d16, i = .lrLdPairN .sp d16) ∨ i = .lrLdSpHl ∨ i = .lrIncPair .sp ∨ i = .lrDecPair .sp ∨
      (∃ e, i = .lrAddSp e) ∨ (∃ p, i = .lrPush p) ∨ (∃ p, i = .lrPop p) ∨ i = .lrPopAf ∨
      (∃ a16, i = .lrCall a16) ∨ (∃ cc a16, i = .lrCallCc cc a16) ∨ (∃ n, i = .lrRst n) ∨
      i = .lrRet ∨ (∃ cc, i = .lrRetCc cc) ∨ i = .lrReti) ∧
    (t.lr.ime ≠ s.lr.ime → i = .lrDi ∨ i = .lrReti) ∧
    (t.lr.eiPending ≠ s.lr.eiPending → i = .lrEi ∨ i = .lrDi) ∧
    (t.lr.skipNext ≠ s.lr.skipNext → i = .lrHalt) ∧
    (t.status = .stopped → s.status ≠ .stopped → ∃ b1, i = .lrStop b1)

/-- A step runs the instruction the bytes at the pc decode to (R130, R133 to R138): where the wake check
leaves the core running, no interrupt is dispatched and no skip is armed, the step is `exec` of it, after
the EI commit and with `last_opcode` recorded; a failure takes the EI commit back. -/
def Obligations.StepRunsDecoded : Prop :=
  ∀ (s w t : State) (bytes rest : List Byte) (i : Instr),
    s.Safe → s.wakeCheck = w → isWaiting w.status = false → w.dispatches = false → w.skips = false →
    w.fetchBytes = .ok bytes → decode w.config.system bytes = .ok (i, rest) →
    exec i (w.commitEi.recordFetch w.pc bytes) = .next t →
    (isCrashed t.status = false → step s = .next t) ∧
    (∀ f, t.status = .crashed f → step s = .next ((w.recordFetch w.pc bytes).crash f))

/-- The fetch reads the instruction that lies at the pc (R133, R134): where memory holds the encoding of a
well-formed instruction of the variant at the pc (addresses modulo 65536 on LR, the whole word below 0x1000
on C8), exactly those bytes are fetched. -/
def Obligations.FetchReadsEncoding : Prop :=
  ∀ (i : Instr) (s : State), i.wf = true → i.system = s.config.system →
    (s.config.system = .c8 → s.c8.pc.toNat < 0xFFF ∧
      ∀ (k : Nat) (h : k < (encode i).length), s.c8Byte (s.c8.pc.toNat + k) = (encode i)[k]) →
    (s.config.system = .lr →
      ∀ (k : Nat) (h : k < (encode i).length), s.lrRead (s.lr.pc + BitVec.ofNat 16 k) = (encode i)[k]) →
    s.fetchBytes = .ok (encode i)

/-- R133, R371: how a fetch or a decode fails. On variant C8 a fetch that leaves the 4096 bytes fails with the
first address outside (the pc where it is above 0xFFF, 0x1000 where it is 0xFFF), and a word that is unassigned
or of the `SYS` row with the pc and its two bytes; on variant LR an unassigned first byte with the pc and that
byte. Nothing else changes but `last_opcode`, which records the bytes read. `w` is the state the wake check
leaves, so what a wake wrote is kept (R138). -/
def Obligations.FetchAndDecodeFailures : Prop :=
  ∀ s w : State, s.wakeCheck = w → w.status = .running →
    (w.config.system = .c8 → 0xFFF < w.c8.pc.toNat →
      step s = .next (w.crash (.invalidMemoryAccess w.c8.pc.toNat))) ∧
    (w.config.system = .c8 → w.c8.pc = 0xFFF#16 → step s = .next (w.crash (.invalidMemoryAccess 0x1000))) ∧
    (∀ b0 b1 : Byte, w.config.system = .c8 → w.c8.pc.toNat < 0xFFF →
      w.c8Byte w.c8.pc.toNat = b0 → w.c8Byte (w.c8.pc.toNat + 1) = b1 →
      (decodeWord (b0 ++ b1) = none ∨ ∃ nnn, decodeWord (b0 ++ b1) = some (.c8Sys nnn)) →
      step s = .next ((w.recordFetch w.c8.pc [b0, b1]).crash (.unrecognizedOpcode w.c8.pc [b0, b1]))) ∧
    (∀ b0 : Byte, w.config.system = .lr → w.interruptDue = false → w.lrRead w.lr.pc = b0 →
      b0 ∈ [0xD3#8, 0xDB#8, 0xDD#8, 0xE3#8, 0xE4#8, 0xEB#8, 0xEC#8, 0xED#8, 0xF4#8, 0xFC#8, 0xFD#8] →
      step s = .next ((w.recordFetch w.lr.pc [b0]).crash (.unrecognizedOpcode w.lr.pc [b0])))

/-- R136: an armed skip passes the next instruction: nothing of it is performed, `skip_next` is cleared,
the answer is its (not-taken) cycle count. The EI commit of the step is kept. -/
def Obligations.SkipStep : Prop :=
  ∀ (s : State) (bytes rest : List Byte) (i : Instr),
    s.config.system = .lr → s.status = .running → s.interruptDue = false → s.lr.skipNext = true →
    s.fetchBytes = .ok bytes → decode .lr bytes = .ok (i, rest) →
    ∃ t, step s = .next t ∧ t.response = .cycles (notTakenCycles i) ∧ t.lr.skipNext = false ∧
      t.lr.pc = s.lr.pc + BitVec.ofNat 16 i.length ∧ t.lastOpcode = some ⟨s.lr.pc, bytes⟩ ∧
      t.lr.ime = (s.lr.ime || s.lr.eiPending) ∧ t.lr.eiPending = false ∧
      s.Frame [.lrPc, .skipNext, .lastOpcode, .ime, .eiPending] t

/-- R132, R48: after `EI` the next instruction is fetched and run before any interrupt is taken, and `IME`
is 1 after it unless it is `DI`; `ei_pending` is then clear unless it is another `EI`. -/
def Obligations.EiDelay : Prop :=
  ∀ (s t : State) (bytes rest : List Byte) (i : Instr),
    s.config.system = .lr → s.status = .running → s.lr.ime = false → s.lr.eiPending = true →
    s.lr.skipNext = false → s.fetchBytes = .ok bytes → decode .lr bytes = .ok (i, rest) →
    step s = .next t → isCrashed t.status = false →
    t.lastOpcode = some ⟨s.lr.pc, bytes⟩ ∧ t.lr.ime = decide (i ≠ .lrDi) ∧
      t.lr.eiPending = decide (i = .lrEi)

/-- The cycle table (R431): an instruction that completes answers its cycle count; a conditional one the
taken count where its condition holds and the not-taken count else; every other one has one count. -/
def Obligations.CycleTable : Prop :=
  ∀ (i : Instr) (s t : State), exec i s = .next t → (∀ f, t.response ≠ .err f) →
    t.response = .cycles (match i with
      | .lrJrCc cc _ | .lrJpCc cc _ | .lrCallCc cc _ | .lrRetCc cc =>
        if s.cond cc then takenCycles i else notTakenCycles i
      | _ => takenCycles i) ∧
    (takenCycles i ≠ notTakenCycles i →
      (∃ cc e, i = .lrJrCc cc e) ∨ (∃ cc a, i = .lrJpCc cc a) ∨ (∃ cc a, i = .lrCallCc cc a) ∨
      ∃ cc, i = .lrRetCc cc)

/-! ## Interrupts, waking and the commands of the host -/

/-- R385, R384: with `IME = 1` and a pending source, a step dispatches the least one: it clears `IME` and the
source's bit of `IF`, pushes the pc, goes to the vector and answers 20 cycles; no instruction is fetched. Where
the pc cannot be pushed the step fails and keeps nothing of the dispatch: with `InvalidStackAccess(SP)` where
`SP < 2` (R385), with the address where a byte it would write is protected, `IF` before the stack check (the
order of the pseudocode, log 17), the low byte before the high one (the model's choice, log 24). -/
def Obligations.InterruptDispatch : Prop :=
  ∀ (s : State) (k : Nat), s.config.system = .lr → s.status = .running ∨ s.status = .halted →
    s.lr.ime = true → k < 5 → (s.lrRead 0xFFFF#16).getLsbD k = true → (s.lrRead 0xFF0F#16).getLsbD k = true →
    (∀ j < k, (s.lrRead 0xFFFF#16).getLsbD j = false ∨ (s.lrRead 0xFF0F#16).getLsbD j = false) →
    (s.readOnlyAt 0xFF0F = true → step s = .next (s.crash (.invalidMemoryAccess 0xFF0F))) ∧
    (s.readOnlyAt 0xFF0F = false →
      (s.lr.sp.toNat < 2 → step s = .next (s.crash (.invalidStackAccess s.lr.sp.toNat))) ∧
      (2 ≤ s.lr.sp.toNat → s.readOnlyAt (s.lr.sp - 2#16).toNat = true →
        step s = .next (s.crash (.invalidMemoryAccess (s.lr.sp - 2#16).toNat))) ∧
      (2 ≤ s.lr.sp.toNat → s.readOnlyAt (s.lr.sp - 2#16).toNat = false →
        s.readOnlyAt (s.lr.sp - 1#16).toNat = true →
        step s = .next (s.crash (.invalidMemoryAccess (s.lr.sp - 1#16).toNat))) ∧
      (s.CanPush → ∃ t, step s = .next t ∧ t.response = .cycles 20 ∧ t.status = .running ∧
        t.lr.pc = BitVec.ofNat 16 (0x0040 + 8 * k) ∧ t.lr.ime = false ∧ s.Pushed t s.lr.pc ∧
        (s.lr.sp ≠ 0xFF10#16 → s.lr.sp ≠ 0xFF11#16 →
          t.lrRead 0xFF0F#16 = s.lrRead 0xFF0F#16 &&& ~~~(1#8 <<< k)) ∧
        s.Frame (.status :: .lrPc :: .ime :: .lrMem 0xFF0F#16 :: s.pushParts) t))

/-- R395, R396: the wake checks. On variant C8 a `Halted` core with a key held gets the least such key in
`V[wait_reg]` and runs; on variant LR a `Halted` core runs exactly if a source is both requested and enabled,
whatever `IME` is. In every other case they do nothing. The wake check of a step (R130, P2) is that of the
instance's variant. -/
def Obligations.WakeChecks : Prop :=
  ∀ s : State,
    (∀ k : Fin 16, s.status = .halted → s.c8.keys[k.val] = true →
      (∀ j : Fin 16, j < k → s.c8.keys[j.val] = false) →
      s.wakeC8.status = .running ∧ s.wakeC8.vx s.c8.waitReg = BitVec.ofNat 8 k.val ∧
      s.Frame [.status, .v s.c8.waitReg] s.wakeC8) ∧
    ((s.status ≠ .halted ∨ ∀ j : Fin 16, s.c8.keys[j.val] = false) → s.wakeC8 = s) ∧
    ((s.status = .halted ∧
        ∃ k < 5, (s.lrRead 0xFFFF#16).getLsbD k = true ∧ (s.lrRead 0xFF0F#16).getLsbD k = true) →
      s.wakeLr = { s with status := .running }) ∧
    ((s.status ≠ .halted ∨
        ∀ k < 5, (s.lrRead 0xFFFF#16).getLsbD k = false ∨ (s.lrRead 0xFF0F#16).getLsbD k = false) →
      s.wakeLr = s) ∧
    (s.config.system = .c8 → s.wakeCheck = s.wakeC8) ∧ (s.config.system = .lr → s.wakeCheck = s.wakeLr)

/-- R400, R401: `UPDATE_TIMERS(n)` subtracts `n` from both timers of variant C8, clamping at zero, and makes
the wake check; on variant LR it makes the wake check only. It works in every status, on every `n`. -/
def Obligations.UpdateTimers : Prop :=
  ∀ (n : Nat) (s : State), ∃ t, command (.updateTimers n) s = .next t ∧
    (s.config.system = .c8 → t.c8.dt.toNat = s.c8.dt.toNat - n ∧ t.c8.st.toNat = s.c8.st.toNat - n ∧
      s.wakeC8.Frame [.dt, .st] t) ∧
    (s.config.system = .lr → s.wakeLr.Frame [] t)

/-- R404, R405, R397, R387: the host's inputs. `SET_INPUT` of variant C8 stores the sixteen booleans and makes
the wake check; of variant LR it stores the eight, requests source 4 on a new press, ends `Stopped` where a
button is held and `Halted` where a source is then pending; `RAISE_IRQ(k)` sets bit `k` of `IF` past any
protection and makes the wake check. -/
def Obligations.HostInputs : Prop :=
  ∀ s : State,
    (∀ vec : Vector Bool 16, s.config.system = .c8 →
      ∃ t, command (.setInput vec.toList) s = .next t ∧ t.c8.keys = vec ∧ ((s.setKeys vec).wakeC8).Frame [] t) ∧
    (∀ vec : Vector Bool 8, s.config.system = .lr →
      ∃ t, command (.setInput vec.toList) s = .next t ∧ t.lr.buttons = vec ∧
        ((∃ k : Fin 8, vec[k.val] = true ∧ s.lr.buttons[k.val] = false) →
          t.lrRead 0xFF0F#16 = s.lrRead 0xFF0F#16 ||| 0x10#8) ∧
        ((∀ k : Fin 8, vec[k.val] = true → s.lr.buttons[k.val] = true) →
          t.lrRead 0xFF0F#16 = s.lrRead 0xFF0F#16) ∧
        t.status =
          (if s.status = .stopped ∧ (∃ k : Fin 8, vec[k.val] = true) then .running
           else if s.status = .halted ∧ t.pending = true then .running else s.status) ∧
        s.Frame [.buttons, .status, .lrMem 0xFF0F#16] t) ∧
    (∀ k : Nat, s.config.system = .lr → k < 5 →
      ∃ t, command (.raiseIrq k) s = .next t ∧
        t.lrRead 0xFF0F#16 = s.lrRead 0xFF0F#16 ||| BitVec.ofNat 8 (2 ^ k) ∧
        t.status = (if s.status = .halted ∧ t.pending = true then .running else s.status) ∧
        s.Frame [.status, .lrMem 0xFF0F#16] t)

/-- R420, R421, R65, R422, R94: the values `RESET` leaves, whatever the state before, the sixteen glyphs of the
font among them; once from anywhere is the freshly constructed instance of the configuration, and twice is once.
That the model's own count of draws is kept and that the tuple of the other variant is reset too is the model's
choice (log 18). -/
def Obligations.ResetValues : Prop :=
  ∀ s : State, ∃ t, command .reset s = .next t ∧ t.config = s.config ∧ t.draws = s.draws ∧
    t.status = .running ∧ t.lastOpcode = none ∧
    (∀ x, t.vx x = 0x00#8) ∧ t.c8.i = 0x0000#16 ∧ t.c8.pc = 0x0200#16 ∧ t.c8.sp = 0 ∧
    (∀ k : Fin 16, t.c8.stack[k.val] = 0x0000#16) ∧ t.c8.dt = 0x00#8 ∧ t.c8.st = 0x00#8 ∧
    (∀ (y : Fin 32) (x : Fin 64), t.c8.fb[y.val][x.val] = false) ∧
    (∀ k : Fin 16, t.c8.keys[k.val] = false) ∧ t.c8.waitReg = 0 ∧
    (∀ a, a < 0x050 ∨ 0x09F < a → t.c8Byte a = 0x00#8) ∧
    (List.range 16).map (fun d => [0, 1, 2, 3, 4].map (fun r => (t.c8Byte (0x050 + 5 * d + r)).toNat)) =
      [[0xF0, 0x90, 0x90, 0x90, 0xF0], [0x20, 0x60, 0x20, 0x20, 0x70], [0xF0, 0x10, 0xF0, 0x80, 0xF0],
       [0xF0, 0x10, 0xF0, 0x10, 0xF0], [0x90, 0x90, 0xF0, 0x10, 0x10], [0xF0, 0x80, 0xF0, 0x10, 0xF0],
       [0xF0, 0x80, 0xF0, 0x90, 0xF0], [0xF0, 0x10, 0x20, 0x40, 0x40], [0xF0, 0x90, 0xF0, 0x90, 0xF0],
       [0xF0, 0x90, 0xF0, 0x10, 0xF0], [0xF0, 0x90, 0xF0, 0x90, 0x90], [0xE0, 0x90, 0xE0, 0x90, 0xE0],
       [0xF0, 0x80, 0x80, 0x80, 0xF0], [0xE0, 0x90, 0x90, 0x90, 0xE0], [0xF0, 0x80, 0xF0, 0x80, 0xF0],
       [0xF0, 0x80, 0xF0, 0x80, 0x80]] ∧
    t.lr.a = 0x01#8 ∧ t.lr.f = 0x0B#8 ∧ t.bc = 0x0013#16 ∧ t.de = 0x00D8#16 ∧ t.hl = 0x014D#16 ∧
    t.lr.sp = 0xFFFE#16 ∧ t.lr.pc = 0x0100#16 ∧ t.lr.ime = false ∧ t.lr.eiPending = false ∧
    t.lr.skipNext = false ∧ (∀ a, t.lrRead a = 0x00#8) ∧ (∀ k : Fin 8, t.lr.buttons[k.val] = false) ∧
    (State.resetOf s.config).Frame [.draws] t ∧ command .reset t = .next t

/-- R424, R425, R378: a `LOAD` of an image that fits leaves the reset state with the image at the load address
(0x200 for C8, 0x0000 for LR), protection not applied; a longer image fails with `InvalidRom(length)` and
changes nothing, a `Crashed` status neither. -/
def Obligations.LoadPlacesImage : Prop :=
  ∀ (image : List Byte) (s : State),
    (image.length ≤ (match s.config.system with | .c8 => 3584 | .lr => 32768) →
      ∃ t r, command (.load image) s = .next t ∧ command .reset s = .next r ∧ t.response = .loaded ∧
        (s.config.system = .c8 →
          (∀ a, t.c8Byte a =
            if h : 0x200 ≤ a ∧ a - 0x200 < image.length then image[a - 0x200] else r.c8Byte a) ∧
          r.Frame ((List.range image.length).map (fun k => .c8Mem (0x200 + k))) t) ∧
        (s.config.system = .lr →
          (∀ a : Word, t.lrRead a = if h : a.toNat < image.length then image[a.toNat] else 0x00#8) ∧
          r.Frame ((List.range image.length).map (fun k => .lrMem (BitVec.ofNat 16 k))) t)) ∧
    ((match s.config.system with | .c8 => 3584 | .lr => 32768) < image.length →
      command (.load image) s = .next { s with response := .err (.invalidRom image.length) })

/-- R91, R410, R92, R387, R404, R405: reading out the framebuffer (64 x 32, row-major) and taking a
snapshot change nothing; the commands the interface gives no meaning are refused (how a refusal is rendered is the
model's, log 19). -/
def Obligations.ReadoutsAndRefusals : Prop :=
  ∀ s : State,
    (s.config.system = .c8 → ∃ pixels, pixels.length = 2048 ∧
      command .readFramebuffer s = .next { s with response := .pixels 64 32 pixels } ∧
      ∀ (y : Fin 32) (x : Fin 64), pixels[64 * y.val + x.val]? =
        some (if s.c8.fb[y.val][x.val] then Config.colorOn else Config.colorOff)) ∧
    (∃ copy, command .snapshot s = .next { s with response := .snapshot copy } ∧
      (s.config.system = .c8 → copy = .c8 s.c8 s.status s.lastOpcode) ∧
      (s.config.system = .lr → copy = .lr s.lr s.status s.lastOpcode)) ∧
    (s.config.system = .lr → command .readFramebuffer s = .refused .noFramebuffer) ∧
    (∀ k, s.config.system = .c8 ∨ 5 ≤ k → command (.raiseIrq k) s = .refused (.noSuchIrq k)) ∧
    (∀ vec : List Bool, vec.length ≠ (match s.config.system with | .c8 => 16 | .lr => 8) →
      command (.setInput vec) s = .refused (.inputLength vec.length)) ∧
    Config.colorOn ≠ Config.colorOff

/-! ## Memory -/

/-- R84, R79: on both variants a byte written is the byte read, every other byte keeps its value, and an
access outside the space (C8) or a write to a protected byte fails with the address. -/
def Obligations.MemoryRoundTrip : Prop :=
  ∀ (s : State) (v : Byte),
    (∀ a, a ≤ 0xFFF → s.readOnlyAt a = false → ∃ t, s.c8Write a [v] = .ok t ∧ t.c8Read a 1 = .ok [v] ∧
      s.Frame [.c8Mem a] t) ∧
    (∀ a, 0xFFF < a → s.c8Write a [v] = .error (.invalidMemoryAccess a) ∧
      s.c8Read a 1 = .error (.invalidMemoryAccess a)) ∧
    (∀ a, a ≤ 0xFFF → s.readOnlyAt a = true → s.c8Write a [v] = .error (.invalidMemoryAccess a) ∧
      s.c8Read a 1 = .ok [s.c8Byte a]) ∧
    (∀ a : Word, s.readOnlyAt a.toNat = false → ∃ t, s.lrWrite a v = .ok t ∧ t.lrRead a = v ∧
      s.Frame [.lrMem a] t) ∧
    (∀ a : Word, s.readOnlyAt a.toNat = true → s.lrWrite a v = .error (.invalidMemoryAccess a.toNat))

/-! ## Variant C8 -/

/-- `JP nnn`, `JP V0,nnn`, `CALL nnn` and `RET` (R150 to R153, R80, R81): the jump with offset is not masked to
12 bits; a call needs a free entry and a return one in use, else they fail with `SP`. -/
def Obligations.C8Control : Prop :=
  ∀ (nnn : BitVec 12) (s : State),
    (∃ t, exec (.c8Jp nnn) s = .next t ∧ t.response = .cycles 1 ∧ t.c8.pc.toNat = nnn.toNat ∧
      s.Frame [.c8Pc] t) ∧
    (∃ t, exec (.c8JpV0 nnn) s = .next t ∧ t.response = .cycles 1 ∧
      t.c8.pc.toNat = nnn.toNat + (s.vx 0).toNat ∧ s.Frame [.c8Pc] t) ∧
    (∀ h : s.c8.sp.val < 16, ∃ t, exec (.c8Call nnn) s = .next t ∧ t.response = .cycles 1 ∧
      t.c8.pc.toNat = nnn.toNat ∧ t.c8.sp.val = s.c8.sp.val + 1 ∧
      t.c8.stack[s.c8.sp.val] = s.c8.pc + 2#16 ∧ s.Frame [.c8Pc, .c8Sp, .stack ⟨s.c8.sp.val, h⟩] t) ∧
    (s.c8.sp = 16 → exec (.c8Call nnn) s = .next (s.crash (.invalidStackAccess 16))) ∧
    (∀ h : 0 < s.c8.sp.val, ∃ t, exec .c8Ret s = .next t ∧ t.response = .cycles 1 ∧
      t.c8.pc = s.c8.stack[s.c8.sp.val - 1] ∧ t.c8.sp.val = s.c8.sp.val - 1 ∧ s.Frame [.c8Pc, .c8Sp] t) ∧
    (s.c8.sp = 0 → exec .c8Ret s = .next (s.crash (.invalidStackAccess 0)))

/-- A call and the return from its target restore the pc to the address after the call and the stack pointer
(R84's companion property of the stack; R151, R153, R346, R348): on variant C8 for calls nested as deep as the
stack allows, on variant LR for one call. -/
def Obligations.CallReturnRoundTrip : Prop :=
  ∀ s : State,
    (∀ (nnn : BitVec 12) (targets : List (BitVec 12)), s.c8.sp.val + targets.length + 1 ≤ 16 →
      ∃ t, execAll ((nnn :: targets).map .c8Call ++ List.replicate (targets.length + 1) .c8Ret) s = .next t ∧
        t.c8.pc = s.c8.pc + 2#16 ∧ t.c8.sp = s.c8.sp) ∧
    (∀ a16 : Word, s.CanPush → ∃ t, execAll [.lrCall a16, .lrRet] s = .next t ∧
      t.lr.pc = s.lr.pc + 3#16 ∧ t.lr.sp = s.lr.sp)

/-- The skips (R154 to R159): the next word is passed exactly if the condition holds. -/
def Obligations.C8Skips : Prop :=
  ∀ (x y : VReg) (kk : Byte) (s : State),
    SkipsWhen (.c8SeImm x kk) s (decide ((s.vx x).toNat = kk.toNat)) ∧
    SkipsWhen (.c8SneImm x kk) s (decide ((s.vx x).toNat ≠ kk.toNat)) ∧
    SkipsWhen (.c8SeReg x y) s (decide ((s.vx x).toNat = (s.vx y).toNat)) ∧
    SkipsWhen (.c8SneReg x y) s (decide ((s.vx x).toNat ≠ (s.vx y).toNat)) ∧
    (∀ h : (s.vx x).toNat < 16, SkipsWhen (.c8Skp x) s s.c8.keys[(s.vx x).toNat] ∧
      SkipsWhen (.c8Sknp x) s (!s.c8.keys[(s.vx x).toNat]))

/-- The failures of the execute phase of variant C8, nothing of the instruction kept: a key or glyph number
above 15 (R372), an access outside the 4096 bytes or a write to a protected byte, with the first such address
in order (R374), and `SYS nnn`, always, with the address and the two bytes of its word (R160). -/
def Obligations.C8Failures : Prop :=
  ∀ (x y : VReg) (n : Fin 16) (nnn : BitVec 12) (s : State),
    (15 < (s.vx x).toNat →
      exec (.c8Skp x) s = .next (s.crash (.invalidOpcodeUsage (s.vx x))) ∧
      exec (.c8Sknp x) s = .next (s.crash (.invalidOpcodeUsage (s.vx x))) ∧
      exec (.c8LdF x) s = .next (s.crash (.invalidOpcodeUsage (s.vx x)))) ∧
    (∀ k, FirstFailure s.c8WriteFails s.c8.i.toNat 3 k →
      exec (.c8LdB x) s = .next (s.crash (.invalidMemoryAccess (s.c8.i.toNat + k)))) ∧
    (∀ k, FirstFailure s.c8WriteFails s.c8.i.toNat (x.val + 1) k →
      exec (.c8StoreRegs x) s = .next (s.crash (.invalidMemoryAccess (s.c8.i.toNat + k)))) ∧
    (∀ k, FirstFailure (fun a => decide (0xFFF < a)) s.c8.i.toNat (x.val + 1) k →
      exec (.c8LoadRegs x) s = .next (s.crash (.invalidMemoryAccess (s.c8.i.toNat + k)))) ∧
    (∀ k, FirstFailure (fun a => decide (0xFFF < a)) s.c8.i.toNat n.val k →
      exec (.c8Drw x y n) s = .next (s.crash (.invalidMemoryAccess (s.c8.i.toNat + k)))) ∧
    (∃ b0 b1 : Byte, encode (.c8Sys nnn) = [b0, b1] ∧
      exec (.c8Sys nnn) s = .next (s.crash (.unrecognizedOpcode s.c8.pc [b0, b1])))

/-- Moves, `ADD Vx,kk`, the logic instructions and `LD Vx,DT` (R170 to R175, R202): one register is
written, VF is not touched but as that register. -/
def Obligations.C8MovesAndLogic : Prop :=
  ∀ (x y : VReg) (kk : Byte) (s : State),
    WritesV (.c8LdImm x kk) s x kk ∧
    WritesV (.c8AddImm x kk) s x (BitVec.ofNat 8 ((s.vx x).toNat + kk.toNat)) ∧
    WritesV (.c8LdReg x y) s x (s.vx y) ∧
    WritesV (.c8Or x y) s x (s.vx x ||| s.vx y) ∧
    WritesV (.c8And x y) s x (s.vx x &&& s.vx y) ∧
    WritesV (.c8Xor x y) s x (s.vx x ^^^ s.vx y) ∧
    WritesV (.c8LdVxDt x) s x s.c8.dt

/-- The instructions with a flag in VF (R178 to R182), VF written last (R22). -/
def Obligations.C8Arithmetic : Prop :=
  ∀ (x y : VReg) (s : State),
    WritesVF (.c8AddReg x y) s x (((s.vx x).toNat + (s.vx y).toNat) % 256)
      (decide ((s.vx x).toNat + (s.vx y).toNat > 255)) ∧
    WritesVF (.c8Sub x y) s x (((s.vx x).toNat + 256 - (s.vx y).toNat) % 256)
      (decide ((s.vx x).toNat ≥ (s.vx y).toNat)) ∧
    WritesVF (.c8Subn x y) s x (((s.vx y).toNat + 256 - (s.vx x).toNat) % 256)
      (decide ((s.vx y).toNat ≥ (s.vx x).toNat)) ∧
    WritesVF (.c8Shr x y) s x ((s.vx x).toNat / 2) (decide ((s.vx x).toNat % 2 = 1)) ∧
    WritesVF (.c8Shl x y) s x ((s.vx x).toNat * 2 % 256) (decide ((s.vx x).toNat ≥ 128))

/-- `RND Vx,kk` (R183), whose draw is the next free byte masked by `kk`, whatever that byte is (log 5), and the
instructions that write `I`: `LD I,nnn`, `ADD I,Vx`, `LD F,Vx` (R184, R185, R207, R94). No flag is written. -/
def Obligations.C8RandomAndIndex : Prop :=
  ∀ (x : VReg) (kk : Byte) (nnn : BitVec 12) (s : State),
    (∃ t, exec (.c8Rnd x kk) s = .next t ∧ s.C8Next t ∧ t.vx x = Config.randByte s.draws &&& kk ∧
      t.vx x &&& ~~~kk = 0x00#8 ∧ t.draws = s.draws + 1 ∧ s.Frame [.c8Pc, .v x, .draws] t) ∧
    (∃ t, exec (.c8LdI nnn) s = .next t ∧ s.C8Next t ∧ t.c8.i.toNat = nnn.toNat ∧ s.Frame [.c8Pc, .i] t) ∧
    (∃ t, exec (.c8AddI x) s = .next t ∧ s.C8Next t ∧
      t.c8.i.toNat = (s.c8.i.toNat + (s.vx x).toNat) % 65536 ∧ s.Frame [.c8Pc, .i] t) ∧
    ((s.vx x).toNat ≤ 15 → ∃ t, exec (.c8LdF x) s = .next t ∧ s.C8Next t ∧
      t.c8.i.toNat = 0x050 + 5 * (s.vx x).toNat ∧ s.Frame [.c8Pc, .i] t)

/-- `LD DT,Vx`, `LD ST,Vx` and `LD Vx,K` (R204, R205, R203): the key wait halts and keeps its register for
the wake, which writes it. -/
def Obligations.C8TimersAndWait : Prop :=
  ∀ (x : VReg) (s : State),
    (∃ t, exec (.c8LdDtVx x) s = .next t ∧ s.C8Next t ∧ t.c8.dt = s.vx x ∧ s.Frame [.c8Pc, .dt] t) ∧
    (∃ t, exec (.c8LdStVx x) s = .next t ∧ s.C8Next t ∧ t.c8.st = s.vx x ∧
      (t.soundOut = true ↔ s.vx x ≠ 0x00#8) ∧ s.Frame [.c8Pc, .st] t) ∧
    (∃ t, exec (.c8LdVxK x) s = .next t ∧ s.C8Next t ∧ t.status = .halted ∧ t.c8.waitReg = x ∧
      s.Frame [.c8Pc, .status, .waitReg] t)

/-- `LD B,Vx`, `LD [I],Vx` and `LD Vx,[I]` (R206, R208, R209) where every byte can be accessed: `I` is
unchanged. -/
def Obligations.C8BlockMoves : Prop :=
  ∀ (x : VReg) (s : State),
    ((∀ k < 3, s.c8WriteFails (s.c8.i.toNat + k) = false) →
      ∃ t, exec (.c8LdB x) s = .next t ∧ s.C8Next t ∧
        100 * (t.c8Byte s.c8.i.toNat).toNat + 10 * (t.c8Byte (s.c8.i.toNat + 1)).toNat +
          (t.c8Byte (s.c8.i.toNat + 2)).toNat = (s.vx x).toNat ∧
        (t.c8Byte (s.c8.i.toNat + 1)).toNat < 10 ∧ (t.c8Byte (s.c8.i.toNat + 2)).toNat < 10 ∧
        s.Frame (.c8Pc :: (List.range 3).map (fun k => .c8Mem (s.c8.i.toNat + k))) t) ∧
    ((∀ k ≤ x.val, s.c8WriteFails (s.c8.i.toNat + k) = false) →
      ∃ t, exec (.c8StoreRegs x) s = .next t ∧ s.C8Next t ∧
        (∀ k : VReg, k ≤ x → t.c8Byte (s.c8.i.toNat + k.val) = s.vx k) ∧
        s.Frame (.c8Pc :: (List.range (x.val + 1)).map (fun k => .c8Mem (s.c8.i.toNat + k))) t) ∧
    (s.c8.i.toNat + x.val ≤ 0xFFF →
      ∃ t, exec (.c8LoadRegs x) s = .next t ∧ s.C8Next t ∧
        (∀ k : VReg, k ≤ x → t.vx k = s.c8Byte (s.c8.i.toNat + k.val)) ∧
        (∀ k : VReg, x < k → t.vx k = s.vx k) ∧
        s.Frame (.c8Pc :: (List.finRange 16).map .v) t)

/-- `CLS` and `DRW Vx,Vy,n` (R200, R201): every pixel is exclusive-ored with the sprite's bit there, the
sprite wrapping at both edges; VF is 1 exactly if some pixel that was on is turned off. -/
def Obligations.C8Display : Prop :=
  ∀ (x y : VReg) (n : Fin 16) (s : State),
    (∃ t, exec .c8Cls s = .next t ∧ s.C8Next t ∧
      (∀ (py : Fin 32) (px : Fin 64), t.c8.fb[py.val][px.val] = false) ∧ s.Frame [.c8Pc, .fb] t) ∧
    ((n.val = 0 ∨ s.c8.i.toNat + n.val ≤ 0x1000) →
      ∃ t, exec (.c8Drw x y n) s = .next t ∧ s.C8Next t ∧
        (∀ (py : Fin 32) (px : Fin 64), t.c8.fb[py.val][px.val] =
          (s.c8.fb[py.val][px.val] ^^ s.spriteBit (s.vx x).toNat (s.vx y).toNat n.val px py)) ∧
        (t.vx 15 = 0x01#8 ↔ ∃ (py : Fin 32) (px : Fin 64), s.c8.fb[py.val][px.val] = true ∧
          s.spriteBit (s.vx x).toNat (s.vx y).toNat n.val px py = true) ∧
        (t.vx 15 = 0x00#8 ∨ t.vx 15 = 0x01#8) ∧ s.Frame [.c8Pc, .fb, .v 15] t)

/-! ## Variant LR -/

/-- The loads of an 8-bit register (R220, R221, R223, R225, R226, R229, R231, R233): the old HL addresses the
byte; no flag. -/
def Obligations.LrLoads : Prop :=
  ∀ (dst src : Reg8) (d8 : Byte) (a16 : Word) (s : State),
    WritesReg (.lrLdRR dst src) s 1 4 dst (s.reg src) ∧
    WritesReg (.lrLdRM dst) s 1 8 dst (s.lrRead (s.lr.h ++ s.lr.l)) ∧
    WritesReg (.lrLdRN dst d8) s 2 8 dst d8 ∧
    WritesReg .lrLdABc s 1 8 .a (s.lrRead (s.lr.b ++ s.lr.c)) ∧
    WritesReg .lrLdADe s 1 8 .a (s.lrRead (s.lr.d ++ s.lr.e)) ∧
    WritesReg (.lrLdAA16 a16) s 3 16 .a (s.lrRead a16) ∧
    WritesReg (.lrLdhAA8 d8) s 2 12 .a (s.lrRead (BitVec.ofNat 16 (0xFF00 + d8.toNat))) ∧
    WritesReg .lrLdAC s 1 8 .a (s.lrRead (BitVec.ofNat 16 (0xFF00 + s.lr.c.toNat)))

/-- The stores of a byte (R222, R224, R227, R228, R230, R232, R234) to a byte that is not protected, and the
loads and stores through HL that step it (R235 to R238): HL moves by one modulo 65536, the old HL addresses the
byte; no flag. -/
def Obligations.LrStores : Prop :=
  ∀ (src : Reg8) (d8 : Byte) (a16 : Word) (s : State),
    (s.readOnlyAt s.hl.toNat = false →
      StoresByte (.lrLdMR src) s 1 8 s.hl (s.reg src) ∧ StoresByte (.lrLdMN d8) s 2 12 s.hl d8) ∧
    (s.readOnlyAt s.bc.toNat = false → StoresByte .lrLdBcA s 1 8 s.bc s.lr.a) ∧
    (s.readOnlyAt s.de.toNat = false → StoresByte .lrLdDeA s 1 8 s.de s.lr.a) ∧
    (s.readOnlyAt a16.toNat = false → StoresByte (.lrLdA16A a16) s 3 16 a16 s.lr.a) ∧
    (s.readOnlyAt (0xFF00 + d8.toNat) = false →
      StoresByte (.lrLdhA8A d8) s 2 12 (BitVec.ofNat 16 (0xFF00 + d8.toNat)) s.lr.a) ∧
    (s.readOnlyAt (0xFF00 + s.lr.c.toNat) = false →
      StoresByte .lrLdCA s 1 8 (BitVec.ofNat 16 (0xFF00 + s.lr.c.toNat)) s.lr.a) ∧
    (s.readOnlyAt s.hl.toNat = false →
      (∃ t, exec .lrLdHliA s = .next t ∧ s.LrNext t 1 8 ∧ t.lrRead s.hl = s.lr.a ∧
        t.hl.toNat = (s.hl.toNat + 1) % 65536 ∧ s.Frame [.lrPc, .reg .h, .reg .l, .lrMem s.hl] t) ∧
      (∃ t, exec .lrLdHldA s = .next t ∧ s.LrNext t 1 8 ∧ t.lrRead s.hl = s.lr.a ∧
        t.hl.toNat = (s.hl.toNat + 65535) % 65536 ∧ s.Frame [.lrPc, .reg .h, .reg .l, .lrMem s.hl] t)) ∧
    (∃ t, exec .lrLdAHli s = .next t ∧ s.LrNext t 1 8 ∧ t.lr.a = s.lrRead s.hl ∧
      t.hl.toNat = (s.hl.toNat + 1) % 65536 ∧ s.Frame [.lrPc, .reg .a, .reg .h, .reg .l] t) ∧
    (∃ t, exec .lrLdAHld s = .next t ∧ s.LrNext t 1 8 ∧ t.lr.a = s.lrRead s.hl ∧
      t.hl.toNat = (s.hl.toNat + 65535) % 65536 ∧ s.Frame [.lrPc, .reg .a, .reg .h, .reg .l] t)

/-- The failures of variant LR, nothing of the instruction kept: a store to a protected byte, with the first
protected address it would write (R75, R79); a push with `SP < 2` and a pop with `SP > 0xFFFD`, with `SP`
(R82, R83, R373), the stack check before the protection check, and of a push the low byte before the high one
(R75; the model's choice beside R254, log 24). The conditional forms fail so only where their
condition holds. -/
def Obligations.LrFailures : Prop :=
  ∀ (src : Reg8) (d8 : Byte) (a16 : Word) (b n : Fin 8) (p : StackPair) (cc : Cond) (s : State),
    (s.readOnlyAt s.hl.toNat = true →
      ∀ i ∈ [Instr.lrLdMR src, .lrLdMN d8, .lrLdHliA, .lrLdHldA, .lrIncM, .lrDecM, .lrRlcM, .lrRrcM, .lrRlM,
        .lrRrM, .lrSlaM, .lrSraM, .lrSwapM, .lrSrlM, .lrResM b, .lrSetM b],
      exec i s = .next (s.crash (.invalidMemoryAccess s.hl.toNat))) ∧
    (s.readOnlyAt s.bc.toNat = true → exec .lrLdBcA s = .next (s.crash (.invalidMemoryAccess s.bc.toNat))) ∧
    (s.readOnlyAt s.de.toNat = true → exec .lrLdDeA s = .next (s.crash (.invalidMemoryAccess s.de.toNat))) ∧
    (s.readOnlyAt (0xFF00 + d8.toNat) = true →
      exec (.lrLdhA8A d8) s = .next (s.crash (.invalidMemoryAccess (0xFF00 + d8.toNat)))) ∧
    (s.readOnlyAt (0xFF00 + s.lr.c.toNat) = true →
      exec .lrLdCA s = .next (s.crash (.invalidMemoryAccess (0xFF00 + s.lr.c.toNat)))) ∧
    (s.readOnlyAt a16.toNat = true →
      exec (.lrLdA16A a16) s = .next (s.crash (.invalidMemoryAccess a16.toNat)) ∧
      exec (.lrLdA16Sp a16) s = .next (s.crash (.invalidMemoryAccess a16.toNat))) ∧
    (s.readOnlyAt a16.toNat = false → s.readOnlyAt (a16 + 1#16).toNat = true →
      exec (.lrLdA16Sp a16) s = .next (s.crash (.invalidMemoryAccess (a16 + 1#16).toNat))) ∧
    (∀ i ∈ [Instr.lrPush p, .lrCall a16, .lrRst n] ++ (if s.cond cc then [.lrCallCc cc a16] else []),
      (s.lr.sp.toNat < 2 → exec i s = .next (s.crash (.invalidStackAccess s.lr.sp.toNat))) ∧
      (2 ≤ s.lr.sp.toNat → s.readOnlyAt (s.lr.sp - 2#16).toNat = true →
        exec i s = .next (s.crash (.invalidMemoryAccess (s.lr.sp - 2#16).toNat))) ∧
      (2 ≤ s.lr.sp.toNat → s.readOnlyAt (s.lr.sp - 2#16).toNat = false →
        s.readOnlyAt (s.lr.sp - 1#16).toNat = true →
        exec i s = .next (s.crash (.invalidMemoryAccess (s.lr.sp - 1#16).toNat)))) ∧
    (∀ i ∈ [Instr.lrPop p, .lrPopAf, .lrRet, .lrReti] ++ (if s.cond cc then [.lrRetCc cc] else []),
      0xFFFD < s.lr.sp.toNat → exec i s = .next (s.crash (.invalidStackAccess s.lr.sp.toNat)))

/-- `LD rr,d16`, `LD SP,HL`, `LD (a16),SP` (R250, R251, R252), `PUSH rr`, `POP rr` and `POP AF` (R254, R255,
R256): the low byte lies at the lower address; `POP AF` takes the flags from the low nibble of the byte at `SP`
and drops the high one; no other of them writes a flag. -/
def Obligations.LrLoads16AndStack : Prop :=
  ∀ (q : Pair) (p : StackPair) (d16 a16 : Word) (s : State),
    (∃ t, exec (.lrLdPairN q d16) s = .next t ∧ s.LrNext t 3 12 ∧ t.pair q = d16 ∧
      s.Frame (.lrPc :: pairParts q) t) ∧
    (∃ t, exec .lrLdSpHl s = .next t ∧ s.LrNext t 1 8 ∧ t.lr.sp = s.lr.h ++ s.lr.l ∧
      s.Frame [.lrPc, .sp] t) ∧
    (s.readOnlyAt a16.toNat = false → s.readOnlyAt (a16 + 1#16).toNat = false →
      ∃ t, exec (.lrLdA16Sp a16) s = .next t ∧ s.LrNext t 3 20 ∧
        (t.lrRead a16).toNat = s.lr.sp.toNat % 256 ∧ (t.lrRead (a16 + 1#16)).toNat = s.lr.sp.toNat / 256 ∧
        s.Frame [.lrPc, .lrMem a16, .lrMem (a16 + 1#16)] t) ∧
    (s.CanPush → ∃ t, exec (.lrPush p) s = .next t ∧ s.LrNext t 1 16 ∧ s.Pushed t (s.stackPair p) ∧
      s.Frame (.lrPc :: s.pushParts) t) ∧
    (s.lr.sp.toNat ≤ 0xFFFD → p ≠ .af → ∃ t, exec (.lrPop p) s = .next t ∧ s.LrNext t 1 12 ∧
      t.stackPair p = s.top16 ∧ t.lr.sp = s.lr.sp + 2#16 ∧ s.Frame (.lrPc :: .sp :: stackPairParts p) t) ∧
    (s.lr.sp.toNat ≤ 0xFFFD → ∃ t, exec .lrPopAf s = .next t ∧ s.LrNext t 1 12 ∧
      t.lr.a = s.lrRead (s.lr.sp + 1#16) ∧ t.lr.f.toNat = (s.lrRead s.lr.sp).toNat % 16 ∧
      t.lr.sp = s.lr.sp + 2#16 ∧ s.Frame [.lrPc, .sp, .reg .a, .flags] t)

/-- `ADD A,s` and `ADC A,s` (R265, R266, R267), for a register, `(HL)` and an immediate: the carry-in takes
part in the sum, H and C. -/
def Obligations.LrAddition : Prop :=
  ∀ (r : Reg8) (d8 : Byte) (s : State),
    let sum (i : Instr) (len cycles : Nat) (v : Byte) (cin : Nat) : Prop :=
      WritesAcc i s len cycles (BitVec.ofNat 8 (s.lr.a.toNat + v.toNat + cin))
        (decide ((s.lr.a.toNat + v.toNat + cin) % 256 = 0)) false
        (decide (s.lr.a.toNat % 16 + v.toNat % 16 + cin > 15))
        (decide (s.lr.a.toNat + v.toNat + cin > 255))
    sum (.lrAddR r) 1 4 (s.reg r) 0 ∧ sum .lrAddM 1 8 (s.lrRead s.hl) 0 ∧ sum (.lrAddN d8) 2 8 d8 0 ∧
    sum (.lrAdcR r) 1 4 (s.reg r) s.flags.c.toNat ∧ sum .lrAdcM 1 8 (s.lrRead s.hl) s.flags.c.toNat ∧
    sum (.lrAdcN d8) 2 8 d8 s.flags.c.toNat

/-- `SUB s`, `SBC A,s` and `CP s` (R265, R268, R269, R273): the exact difference may be negative; `CP` sets the
flags of `SUB` and does not write A. -/
def Obligations.LrSubtraction : Prop :=
  ∀ (r : Reg8) (d8 : Byte) (s : State),
    let z (v : Byte) (cin : Nat) : Bool := decide ((s.lr.a.toNat + 512 - v.toNat - cin) % 256 = 0)
    let h (v : Byte) (cin : Nat) : Bool := decide (s.lr.a.toNat % 16 < v.toNat % 16 + cin)
    let c (v : Byte) (cin : Nat) : Bool := decide (s.lr.a.toNat < v.toNat + cin)
    let diff (i : Instr) (len cycles : Nat) (v : Byte) (cin : Nat) : Prop :=
      WritesAcc i s len cycles (BitVec.ofNat 8 (s.lr.a.toNat + 512 - v.toNat - cin)) (z v cin) true (h v cin)
        (c v cin)
    let compare (i : Instr) (len cycles : Nat) (v : Byte) : Prop :=
      WritesFlags i s len cycles (z v 0) true (h v 0) (c v 0)
    diff (.lrSubR r) 1 4 (s.reg r) 0 ∧ diff .lrSubM 1 8 (s.lrRead s.hl) 0 ∧ diff (.lrSubN d8) 2 8 d8 0 ∧
    diff (.lrSbcR r) 1 4 (s.reg r) s.flags.c.toNat ∧ diff .lrSbcM 1 8 (s.lrRead s.hl) s.flags.c.toNat ∧
    diff (.lrSbcN d8) 2 8 d8 s.flags.c.toNat ∧
    compare (.lrCpR r) 1 4 (s.reg r) ∧ compare .lrCpM 1 8 (s.lrRead s.hl) ∧ compare (.lrCpN d8) 2 8 d8

/-- `AND s`, `XOR s` and `OR s` (R270, R271, R272): Z from the result, N = C = 0, H = 1 for `AND` only. -/
def Obligations.LrLogic : Prop :=
  ∀ (r : Reg8) (d8 : Byte) (s : State),
    let logic (i : Instr) (len cycles : Nat) (result : Byte) (h : Bool) : Prop :=
      WritesAcc i s len cycles result (decide (result.toNat = 0)) false h false
    logic (.lrAndR r) 1 4 (s.lr.a &&& s.reg r) true ∧ logic .lrAndM 1 8 (s.lr.a &&& s.lrRead s.hl) true ∧
    logic (.lrAndN d8) 2 8 (s.lr.a &&& d8) true ∧
    logic (.lrXorR r) 1 4 (s.lr.a ^^^ s.reg r) false ∧ logic .lrXorM 1 8 (s.lr.a ^^^ s.lrRead s.hl) false ∧
    logic (.lrXorN d8) 2 8 (s.lr.a ^^^ d8) false ∧
    logic (.lrOrR r) 1 4 (s.lr.a ||| s.reg r) false ∧ logic .lrOrM 1 8 (s.lr.a ||| s.lrRead s.hl) false ∧
    logic (.lrOrN d8) 2 8 (s.lr.a ||| d8) false

/-- `INC` and `DEC` of a register and of `(HL)` (R274, R275): C is unchanged. -/
def Obligations.LrIncDec : Prop :=
  ∀ (r : Reg8) (s : State),
    let inc (i : Instr) (cycles : Nat) (o : Operand8) (v : Nat) : Prop :=
      WritesOperand i s 1 cycles o (BitVec.ofNat 8 (v + 1)) (decide (v = 0xFF)) false (decide (v % 16 = 15))
        s.flags.c
    let dec (i : Instr) (cycles : Nat) (o : Operand8) (v : Nat) : Prop :=
      WritesOperand i s 1 cycles o (BitVec.ofNat 8 (v + 255)) (decide (v = 0x01)) true (decide (v % 16 = 0))
        s.flags.c
    inc (.lrIncR r) 4 (.reg r) (s.reg r).toNat ∧ dec (.lrDecR r) 4 (.reg r) (s.reg r).toNat ∧
    (s.Writable .atHl → inc .lrIncM 12 .atHl (s.lrRead s.hl).toNat ∧ dec .lrDecM 12 .atHl (s.lrRead s.hl).toNat)

/-- `CPL`, `SCF` and `CCF` (R277, R278, R279), and `DAA` as its rule computes it (R276): the flags a rule does
not name are unchanged. -/
def Obligations.LrAccumulatorMisc : Prop :=
  ∀ s : State,
    WritesAcc .lrCpl s 1 4 (BitVec.ofNat 8 (255 - s.lr.a.toNat)) s.flags.z true true s.flags.c ∧
    WritesFlags .lrScf s 1 4 s.flags.z false false true ∧
    WritesFlags .lrCcf s 1 4 s.flags.z false false (!s.flags.c) ∧
    (let a := s.lr.a.toNat
     let low := s.flags.h || (!s.flags.n && decide (a % 16 > 0x09))
     let high := s.flags.c || (!s.flags.n && decide (a > 0x99))
     let adjust := 0x06 * low.toNat + 0x60 * high.toNat
     let result := (if s.flags.n then a + 256 - adjust else a + adjust) % 256
     WritesAcc .lrDaa s 1 4 (BitVec.ofNat 8 result) (decide (result = 0)) s.flags.n false high)

/-- What `DAA` is for (R276): after `ADD A,r` of two packed BCD operands it leaves the packed BCD of their sum
modulo 100, with C where the sum is 100 or more. -/
def Obligations.DaaAddsDecimals : Prop :=
  ∀ (r : Reg8) (s t u : State) (m n : Nat), m < 100 → n < 100 →
    s.lr.a.toNat = m / 10 * 16 + m % 10 → (s.reg r).toNat = n / 10 * 16 + n % 10 →
    exec (.lrAddR r) s = .next t → exec .lrDaa t = .next u →
    u.lr.a.toNat = (m + n) / 10 % 10 * 16 + (m + n) % 10 ∧ u.flags.c = decide (m + n ≥ 100)

/-- `ADD HL,rr`, `INC rr`, `DEC rr` (R300, R301, R302, R304): H is the carry out of the low byte, C out of bit
15, Z is unchanged; `INC` and `DEC` write no flag. -/
def Obligations.LrArithmetic16 : Prop :=
  ∀ (p : Pair) (s : State),
    (∃ t, exec (.lrAddHl p) s = .next t ∧ s.LrNext t 1 8 ∧
      t.hl.toNat = (s.hl.toNat + (s.pair p).toNat) % 65536 ∧
      t.HasFlags s.flags.z false (decide (s.hl.toNat % 256 + (s.pair p).toNat % 256 > 255))
        (decide (s.hl.toNat + (s.pair p).toNat > 65535)) ∧
      s.Frame [.lrPc, .reg .h, .reg .l, .flags] t) ∧
    (∃ t, exec (.lrIncPair p) s = .next t ∧ s.LrNext t 1 8 ∧
      (t.pair p).toNat = ((s.pair p).toNat + 1) % 65536 ∧ s.Frame (.lrPc :: pairParts p) t) ∧
    (∃ t, exec (.lrDecPair p) s = .next t ∧ s.LrNext t 1 8 ∧
      (t.pair p).toNat = ((s.pair p).toNat + 65535) % 65536 ∧ s.Frame (.lrPc :: pairParts p) t)

/-- `ADD SP,e` and `LD HL,SP+e` (R303, R253, R304): the displacement is signed; Z = N = 0; H and C are those of the
16-bit sum with the sign-extended displacement taken as unsigned; no stack check. -/
def Obligations.LrStackPointerSums : Prop :=
  ∀ (e : Byte) (s : State),
    let addend := if e.toNat < 128 then e.toNat else e.toNat + 0xFF00
    let sum := s.lr.sp.toNat + addend
    let h := decide (s.lr.sp.toNat % 256 + e.toNat > 255)
    (∃ t, exec (.lrAddSp e) s = .next t ∧ s.LrNext t 2 16 ∧ t.lr.sp.toNat = sum % 65536 ∧
      t.HasFlags false false h (decide (sum > 65535)) ∧ s.Frame [.lrPc, .sp, .flags] t) ∧
    (∃ t, exec (.lrLdHlSp e) s = .next t ∧ s.LrNext t 2 12 ∧ t.hl.toNat = sum % 65536 ∧
      t.HasFlags false false h (decide (sum > 65535)) ∧ s.Frame [.lrPc, .reg .h, .reg .l, .flags] t)

/-- `RLCA`, `RRCA`, `RLA`, `RRA` (R310 to R313): bit by bit; Z = N = H = 0 always. -/
def Obligations.LrAccumulatorRotates : Prop :=
  ∀ s : State,
    let a := s.lr.a
    let rotates (i : Instr) (bit : Fin 8 → Bool) (out : Bool) : Prop :=
      ∃ t, exec i s = .next t ∧ s.LrNext t 1 4 ∧ (∀ k : Fin 8, t.lr.a.getLsbD k.val = bit k) ∧
        t.HasFlags false false false out ∧ s.Frame [.lrPc, .reg .a, .flags] t
    rotates .lrRlca (fun k => a.getLsbD ((k.val + 7) % 8)) (a.getLsbD 7) ∧
    rotates .lrRrca (fun k => a.getLsbD ((k.val + 1) % 8)) (a.getLsbD 0) ∧
    rotates .lrRla (fun k => if k.val = 0 then s.flags.c else a.getLsbD (k.val - 1)) (a.getLsbD 7) ∧
    rotates .lrRra (fun k => if k.val = 7 then s.flags.c else a.getLsbD (k.val + 1)) (a.getLsbD 0)

/-- The prefixed rotates and shifts (R314 to R321) of a register and of `(HL)`: bit by bit, Z from the result,
N = H = 0, C the bit shifted out (0 for `SWAP`). -/
def Obligations.LrRotatesAndShifts : Prop :=
  ∀ (o : Operand8) (s : State), s.Writable o →
    let v := s.r8 o
    let form (f : Reg8 → Instr) (m : Instr) : Instr := match o with | .reg r => f r | .atHl => m
    let cycles := match o with | .reg _ => 8 | .atHl => 16
    let shifts (i : Instr) (bit : Fin 8 → Bool) (out : Bool) : Prop :=
      ∃ w : Byte, (∀ k : Fin 8, w.getLsbD k.val = bit k) ∧
        WritesOperand i s 2 cycles o w (decide (w.toNat = 0)) false false out
    shifts (form .lrRlcR .lrRlcM) (fun k => v.getLsbD ((k.val + 7) % 8)) (v.getLsbD 7) ∧
    shifts (form .lrRrcR .lrRrcM) (fun k => v.getLsbD ((k.val + 1) % 8)) (v.getLsbD 0) ∧
    shifts (form .lrRlR .lrRlM) (fun k => if k.val = 0 then s.flags.c else v.getLsbD (k.val - 1)) (v.getLsbD 7) ∧
    shifts (form .lrRrR .lrRrM) (fun k => if k.val = 7 then s.flags.c else v.getLsbD (k.val + 1)) (v.getLsbD 0) ∧
    shifts (form .lrSlaR .lrSlaM) (fun k => if k.val = 0 then false else v.getLsbD (k.val - 1)) (v.getLsbD 7) ∧
    shifts (form .lrSraR .lrSraM) (fun k => v.getLsbD (min 7 (k.val + 1))) (v.getLsbD 0) ∧
    shifts (form .lrSwapR .lrSwapM) (fun k => v.getLsbD ((k.val + 4) % 8)) false ∧
    shifts (form .lrSrlR .lrSrlM) (fun k => if k.val = 7 then false else v.getLsbD (k.val + 1)) (v.getLsbD 0)

/-- `BIT b`, `RES b` and `SET b` (R322, R323, R324) of a register and of `(HL)`: `BIT` writes flags only, `RES`
and `SET` change one bit and no flag. -/
def Obligations.LrBitOperations : Prop :=
  ∀ (b : Fin 8) (o : Operand8) (s : State),
    let v := s.r8 o
    let form (f : Reg8 → Instr) (m : Instr) : Instr := match o with | .reg r => f r | .atHl => m
    let wide := match o with | .reg _ => 8 | .atHl => 16
    let tests := match o with | .reg _ => 8 | .atHl => 12
    WritesFlags (form (.lrBitR b) (.lrBitM b)) s 2 tests (!v.getLsbD b.val) false true s.flags.c ∧
    (s.Writable o →
      (∃ w : Byte, (∀ k : Fin 8, w.getLsbD k.val = (v.getLsbD k.val && decide (k ≠ b))) ∧
        WritesOperandOnly (form (.lrResR b) (.lrResM b)) s 2 wide o w) ∧
      (∃ w : Byte, (∀ k : Fin 8, w.getLsbD k.val = (v.getLsbD k.val || decide (k = b))) ∧
        WritesOperandOnly (form (.lrSetR b) (.lrSetM b)) s 2 wide o w))

/-- R112: the prefix byte and the byte after it are one instruction, the one the second byte selects in the
prefixed map; the constructor of the prefix row means that instruction, and completes where it does. -/
def Obligations.PrefixSelectsPrefixedMap : Prop :=
  ∀ (b1 : Byte) (s : State),
    decode .lr [0xCB#8, b1] = .ok (decodePrefixed b1, []) ∧
    (decodePrefixed b1).length = 2 ∧ (decodePrefixed b1).wf = true ∧
    exec (.lrPrefixCb b1) s = exec (decodePrefixed b1) s ∧
    (s.readOnlyAt s.hl.toNat = false →
      ∃ t, exec (.lrPrefixCb b1) s = .next t ∧ t.response = .cycles (takenCycles (decodePrefixed b1)) ∧
        t.lr.pc = s.lr.pc + 2#16 ∧
        s.Frame ([.lrPc, .flags, .lrMem s.hl] ++
          [Reg8.a, .b, .c, .d, .e, .h, .l].map Part.reg) t)

/-- `NOP` and the jumps (R340 to R345, R363): a relative jump counts from the next instruction; a condition
that does not hold leaves only the pc advance, with the smaller cycle count. The conditions (R109) read the bits
3 (Z) and 0 (C) of `F`. -/
def Obligations.LrJumps : Prop :=
  ∀ (cc : Cond) (a16 : Word) (e : Byte) (s : State),
    let rel : Word := BitVec.ofInt 16 ((s.lr.pc.toNat : Int) + 2 + e.toInt)
    JumpsTo .lrNop s 4 (s.lr.pc + 1#16) ∧ JumpsTo (.lrJp a16) s 16 a16 ∧
    JumpsTo .lrJpHl s 4 (s.lr.h ++ s.lr.l) ∧ JumpsTo (.lrJr e) s 12 rel ∧
    (if s.cond cc then JumpsTo (.lrJpCc cc a16) s 16 a16 ∧ JumpsTo (.lrJrCc cc e) s 12 rel
     else JumpsTo (.lrJpCc cc a16) s 12 (s.lr.pc + 3#16) ∧ JumpsTo (.lrJrCc cc e) s 8 (s.lr.pc + 2#16)) ∧
    (s.cond .z = true ↔ s.lr.f.toNat / 8 % 2 = 1) ∧ (s.cond .nz = true ↔ s.lr.f.toNat / 8 % 2 = 0) ∧
    (s.cond .c = true ↔ s.lr.f.toNat % 2 = 1) ∧ (s.cond .nc = true ↔ s.lr.f.toNat % 2 = 0)

/-- `CALL a16`, `CALL cc,a16` and `RST n` (R346, R347, R357): the address after the instruction is pushed. -/
def Obligations.LrCalls : Prop :=
  ∀ (cc : Cond) (a16 : Word) (n : Fin 8) (s : State),
    (s.CanPush → CallsTo (.lrCall a16) s 3 24 a16 ∧ CallsTo (.lrRst n) s 1 16 (BitVec.ofNat 16 (8 * n.val)) ∧
      (s.cond cc = true → CallsTo (.lrCallCc cc a16) s 3 24 a16)) ∧
    (s.cond cc = false → JumpsTo (.lrCallCc cc a16) s 12 (s.lr.pc + 3#16))

/-- `RET`, `RET cc` and `RETI` (R348, R349, R350): `RETI` sets `IME` at once; a condition that does not hold
leaves the stack alone. -/
def Obligations.LrReturns : Prop :=
  ∀ (cc : Cond) (s : State),
    (s.lr.sp.toNat ≤ 0xFFFD → ReturnsWith .lrRet s 16 [] (fun _ => True) ∧
      ReturnsWith .lrReti s 16 [.ime] (fun t => t.lr.ime = true) ∧
      (s.cond cc = true → ReturnsWith (.lrRetCc cc) s 20 [] (fun _ => True))) ∧
    (s.cond cc = false → JumpsTo (.lrRetCc cc) s 8 (s.lr.pc + 1#16))

/-- `DI`, `EI`, `HALT` and `STOP` (R358, R359, R361, R362): `EI` does not set `IME` itself; `HALT` with `IME = 0` and
a pending source arms the skip and does not halt. -/
def Obligations.LrControl : Prop :=
  ∀ (b1 : Byte) (s : State),
    (∃ t, exec .lrDi s = .next t ∧ s.LrNext t 1 4 ∧ t.lr.ime = false ∧ t.lr.eiPending = false ∧
      s.Frame [.lrPc, .ime, .eiPending] t) ∧
    (∃ t, exec .lrEi s = .next t ∧ s.LrNext t 1 4 ∧ t.lr.eiPending = true ∧ s.Frame [.lrPc, .eiPending] t) ∧
    (∃ t, exec .lrHalt s = .next t ∧ s.LrNext t 1 4 ∧
      (if s.lr.ime = false ∧ s.pending = true then t.lr.skipNext = true ∧ s.Frame [.lrPc, .skipNext] t
       else t.status = .halted ∧ s.Frame [.lrPc, .status] t)) ∧
    (∃ t, exec (.lrStop b1) s = .next t ∧ s.LrNext t 2 4 ∧ t.status = .stopped ∧ s.Frame [.lrPc, .status] t)

/-- The invariant is kept by every command of the host (R5), not by `STEP` alone: `RESET` (R420), `LOAD` (R424),
which alone brings a program into memory (log 16), `UPDATE_TIMERS` (R400), `SET_INPUT` (R404, R405), `RAISE_IRQ`
(R387) and the readouts. -/
def Obligations.CommandsKeepInv : Prop :=
  ∀ (c : Command) (s t : State), s.Inv → command c s = .next t → t.Inv
end

