-- ==== Sys2Proof/Laws/Memory.lean ====
section
/-! SUPPORT. The laws of memory: a read after a write (R84), and that every memory operation keeps the
canonical form. -/

namespace Sys2Proof.Machine

/-! ## Reading after writing -/

/-- Dropping the cells of an address leaves it unlisted. -/
theorem readCell_filter_self (u : Nat → Byte) (m : Memory) (a : Nat) :
    readCell u (m.filter (fun c => c.1 != a)) a = u a := by
  induction m with
  | nil => rfl
  | cons c m ih =>
    by_cases h : c.1 = a
    · simpa [List.filter_cons, h] using ih
    · simpa [List.filter_cons, h, readCell] using ih

/-- Dropping the cells of an address leaves every other byte. -/
theorem readCell_filter_ne (u : Nat → Byte) (m : Memory) {a b : Nat} (hab : b ≠ a) :
    readCell u (m.filter (fun c => c.1 != a)) b = readCell u m b := by
  induction m with
  | nil => rfl
  | cons c m ih =>
    by_cases h : c.1 = a
    · have : c.1 ≠ b := fun hb => hab (hb ▸ h)
      simpa [List.filter_cons, h, readCell, this, Ne.symm hab] using ih
    · simp [h, readCell, ih]

/-- An inserted cell is read where no cell of its address stood. -/
theorem readCell_insertCell_self (u : Nat → Byte) (m : Memory) (a : Nat) (v : Byte) (h : ∀ c ∈ m, c.1 ≠ a) :
    readCell u (insertCell a v m) a = v := by
  induction m with
  | nil => simp [insertCell, readCell]
  | cons c m ih =>
    simp only [List.mem_cons, forall_eq_or_imp] at h
    by_cases hlt : a < c.1
    · simp [insertCell, hlt, readCell]
    · simp [insertCell, hlt, readCell, h.1, ih h.2]

/-- An inserted cell hides no byte of another address. -/
theorem readCell_insertCell_ne (u : Nat → Byte) (m : Memory) {a b : Nat} (v : Byte) (hab : b ≠ a) :
    readCell u (insertCell a v m) b = readCell u m b := by
  induction m with
  | nil => simp [insertCell, readCell, Ne.symm hab]
  | cons c m ih =>
    by_cases hlt : a < c.1
    · simp [insertCell, hlt, readCell, Ne.symm hab]
    · simp [insertCell, hlt, readCell, ih]

/-- A byte written is the byte read, and every other byte keeps its value (R84). -/
theorem readCell_writeCell (u : Nat → Byte) (m : Memory) (a b : Nat) (v : Byte) :
    readCell u (writeCell u m a v) b = if b = a then v else readCell u m b := by
  unfold writeCell
  by_cases hb : b = a
  · subst hb
    split
    · simp [readCell_filter_self, *]
    · rw [readCell_insertCell_self]
      · simp
      · simp [List.mem_filter]
  · split
    · simp [readCell_filter_ne _ _ hb]
    · simp [readCell_insertCell_ne _ _ _ hb, readCell_filter_ne _ _ hb]

/-- Bytes written one after another are read in their places, every other byte keeps its value. -/
theorem readCell_writeCells (u : Nat → Byte) (m : Memory) (a b : Nat) (vs : List Byte) :
    readCell u (writeCells u m a vs) b =
      if h : a ≤ b ∧ b - a < vs.length then vs[b - a] else readCell u m b := by
  induction vs generalizing m a with
  | nil => simp [writeCells]
  | cons v vs ih =>
    rw [writeCells, ih]
    by_cases h : a + 1 ≤ b ∧ b - (a + 1) < vs.length
    · have h2 : a ≤ b ∧ b - a < (v :: vs).length := by simp; omega
      rw [dif_pos h, dif_pos h2]
      have : b - a = (b - (a + 1)) + 1 := by omega
      simp only [this, List.getElem_cons_succ]
    · rw [dif_neg h, readCell_writeCell]
      by_cases hb : b = a
      · subst hb
        simp
      · have : ¬ (a ≤ b ∧ b - a < (v :: vs).length) := by simp; omega
        rw [dif_neg this, if_neg hb]

/-! ## The canonical form -/

/-- Cells of a filtered memory stay in canonical form. -/
theorem memoryWf_filter {u : Nat → Byte} {n : Nat} {m : Memory} (p : Host.Cell → Bool) (h : MemoryWf u n m) :
    MemoryWf u n (m.filter p) :=
  ⟨h.1.filter p, fun c hc => h.2 c (List.mem_of_mem_filter hc)⟩

/-- The cells after an insertion are the old ones and the new one. -/
theorem mem_insertCell {a : Nat} {v : Byte} {m : Memory} {c : Host.Cell} :
    c ∈ insertCell a v m ↔ c = (a, v) ∨ c ∈ m := by
  induction m with
  | nil => simp [insertCell]
  | cons d m ih =>
    by_cases h : a < d.1
    · simp [insertCell, h]
    · simp only [insertCell, h, if_false, List.mem_cons, ih]
      tauto

/-- An insertion keeps the canonical form where the address is free, in range, and the value is not what the
address reads as unlisted. -/
theorem memoryWf_insertCell {u : Nat → Byte} {n a : Nat} {v : Byte} {m : Memory} (h : MemoryWf u n m)
    (hfree : ∀ c ∈ m, c.1 ≠ a) (ha : a < n) (hv : v ≠ u a) : MemoryWf u n (insertCell a v m) := by
  refine ⟨?_, fun c hc => ?_⟩
  · have hp := h.1
    clear h
    induction m with
    | nil => simp [insertCell]
    | cons d m ih =>
      simp only [List.mem_cons, forall_eq_or_imp] at hfree
      rw [List.pairwise_cons] at hp
      by_cases hlt : a < d.1
      · rw [insertCell, if_pos hlt, List.pairwise_cons, List.pairwise_cons]
        exact ⟨by rintro c (_ | hc); exacts [hlt, lt_trans hlt (hp.1 c (by assumption))], hp⟩
      · simp only [insertCell, hlt, if_false, List.pairwise_cons]
        refine ⟨fun c hc => ?_, ih hfree.2 hp.2⟩
        rcases mem_insertCell.1 hc with rfl | hc
        · have := hfree.1
          omega
        · exact hp.1 c hc
  · rcases mem_insertCell.1 hc with rfl | hc
    · exact ⟨hv, ha⟩
    · exact h.2 c hc

/-- A store keeps the canonical form. -/
theorem memoryWf_writeCell {u : Nat → Byte} {n a : Nat} {m : Memory} (v : Byte) (h : MemoryWf u n m) (ha : a < n) :
    MemoryWf u n (writeCell u m a v) := by
  unfold writeCell
  split
  · exact memoryWf_filter _ h
  · exact memoryWf_insertCell (memoryWf_filter _ h) (by simp [List.mem_filter]) ha ‹_›

/-- Stores at consecutive addresses keep the canonical form. -/
theorem memoryWf_writeCells {u : Nat → Byte} {n : Nat} (vs : List Byte) {m : Memory} {a : Nat} (h : MemoryWf u n m)
    (ha : a + vs.length ≤ n) : MemoryWf u n (writeCells u m a vs) := by
  induction vs generalizing m a with
  | nil => exact h
  | cons v vs ih =>
    simp only [List.length_cons] at ha
    exact ih (memoryWf_writeCell v h (by omega)) (by omega)

/-- A memory that lists nothing is in canonical form. -/
theorem memoryWf_nil (u : Nat → Byte) (n : Nat) : MemoryWf u n [] :=
  ⟨List.Pairwise.nil, by simp⟩

end Sys2Proof.Machine
end

