-- ==== Sys2Proof/Laws/State.lean ====
section
/-! SUPPORT. What each named update of the state leaves in every field, so that no later proof unfolds a record
update. -/

namespace Sys2Proof.Machine

@[simp] theorem State.setV_fields (s : State) (x : VReg) (v : Byte) :
    (s.setV x v).config = s.config ∧
    (s.setV x v).status = s.status ∧
    (s.setV x v).lastOpcode = s.lastOpcode ∧
    (s.setV x v).lr = s.lr ∧
    (s.setV x v).response = s.response ∧
    (s.setV x v).draws = s.draws ∧
    (s.setV x v).c8 = { s.c8 with v := s.c8.v.set x.val v x.isLt } :=
  ⟨rfl, rfl, rfl, rfl, rfl, rfl, rfl⟩

@[simp] theorem State.setI_fields (s : State) (v : Word) :
    (s.setI v).config = s.config ∧
    (s.setI v).status = s.status ∧
    (s.setI v).lastOpcode = s.lastOpcode ∧
    (s.setI v).lr = s.lr ∧
    (s.setI v).response = s.response ∧
    (s.setI v).draws = s.draws ∧
    (s.setI v).c8 = { s.c8 with i := v } :=
  ⟨rfl, rfl, rfl, rfl, rfl, rfl, rfl⟩

@[simp] theorem State.setC8Pc_fields (s : State) (v : Word) :
    (s.setC8Pc v).config = s.config ∧
    (s.setC8Pc v).status = s.status ∧
    (s.setC8Pc v).lastOpcode = s.lastOpcode ∧
    (s.setC8Pc v).lr = s.lr ∧
    (s.setC8Pc v).response = s.response ∧
    (s.setC8Pc v).draws = s.draws ∧
    (s.setC8Pc v).c8 = { s.c8 with pc := v } :=
  ⟨rfl, rfl, rfl, rfl, rfl, rfl, rfl⟩

@[simp] theorem State.setC8Sp_fields (s : State) (v : Fin 17) :
    (s.setC8Sp v).config = s.config ∧
    (s.setC8Sp v).status = s.status ∧
    (s.setC8Sp v).lastOpcode = s.lastOpcode ∧
    (s.setC8Sp v).lr = s.lr ∧
    (s.setC8Sp v).response = s.response ∧
    (s.setC8Sp v).draws = s.draws ∧
    (s.setC8Sp v).c8 = { s.c8 with sp := v } :=
  ⟨rfl, rfl, rfl, rfl, rfl, rfl, rfl⟩

@[simp] theorem State.setStack_fields (s : State) (k : Fin 16) (v : Word) :
    (s.setStack k v).config = s.config ∧
    (s.setStack k v).status = s.status ∧
    (s.setStack k v).lastOpcode = s.lastOpcode ∧
    (s.setStack k v).lr = s.lr ∧
    (s.setStack k v).response = s.response ∧
    (s.setStack k v).draws = s.draws ∧
    (s.setStack k v).c8 = { s.c8 with stack := s.c8.stack.set k.val v k.isLt } :=
  ⟨rfl, rfl, rfl, rfl, rfl, rfl, rfl⟩

@[simp] theorem State.setDt_fields (s : State) (v : Byte) :
    (s.setDt v).config = s.config ∧
    (s.setDt v).status = s.status ∧
    (s.setDt v).lastOpcode = s.lastOpcode ∧
    (s.setDt v).lr = s.lr ∧
    (s.setDt v).response = s.response ∧
    (s.setDt v).draws = s.draws ∧
    (s.setDt v).c8 = { s.c8 with dt := v } :=
  ⟨rfl, rfl, rfl, rfl, rfl, rfl, rfl⟩

@[simp] theorem State.setSt_fields (s : State) (v : Byte) :
    (s.setSt v).config = s.config ∧
    (s.setSt v).status = s.status ∧
    (s.setSt v).lastOpcode = s.lastOpcode ∧
    (s.setSt v).lr = s.lr ∧
    (s.setSt v).response = s.response ∧
    (s.setSt v).draws = s.draws ∧
    (s.setSt v).c8 = { s.c8 with st := v } :=
  ⟨rfl, rfl, rfl, rfl, rfl, rfl, rfl⟩

@[simp] theorem State.setC8Mem_fields (s : State) (m : Memory) :
    (s.setC8Mem m).config = s.config ∧
    (s.setC8Mem m).status = s.status ∧
    (s.setC8Mem m).lastOpcode = s.lastOpcode ∧
    (s.setC8Mem m).lr = s.lr ∧
    (s.setC8Mem m).response = s.response ∧
    (s.setC8Mem m).draws = s.draws ∧
    (s.setC8Mem m).c8 = { s.c8 with mem := m } :=
  ⟨rfl, rfl, rfl, rfl, rfl, rfl, rfl⟩

@[simp] theorem State.setFb_fields (s : State) (fb : Framebuffer) :
    (s.setFb fb).config = s.config ∧
    (s.setFb fb).status = s.status ∧
    (s.setFb fb).lastOpcode = s.lastOpcode ∧
    (s.setFb fb).lr = s.lr ∧
    (s.setFb fb).response = s.response ∧
    (s.setFb fb).draws = s.draws ∧
    (s.setFb fb).c8 = { s.c8 with fb := fb } :=
  ⟨rfl, rfl, rfl, rfl, rfl, rfl, rfl⟩

@[simp] theorem State.setKeys_fields (s : State) (k : Vector Bool 16) :
    (s.setKeys k).config = s.config ∧
    (s.setKeys k).status = s.status ∧
    (s.setKeys k).lastOpcode = s.lastOpcode ∧
    (s.setKeys k).lr = s.lr ∧
    (s.setKeys k).response = s.response ∧
    (s.setKeys k).draws = s.draws ∧
    (s.setKeys k).c8 = { s.c8 with keys := k } :=
  ⟨rfl, rfl, rfl, rfl, rfl, rfl, rfl⟩

@[simp] theorem State.setWaitReg_fields (s : State) (x : VReg) :
    (s.setWaitReg x).config = s.config ∧
    (s.setWaitReg x).status = s.status ∧
    (s.setWaitReg x).lastOpcode = s.lastOpcode ∧
    (s.setWaitReg x).lr = s.lr ∧
    (s.setWaitReg x).response = s.response ∧
    (s.setWaitReg x).draws = s.draws ∧
    (s.setWaitReg x).c8 = { s.c8 with waitReg := x } :=
  ⟨rfl, rfl, rfl, rfl, rfl, rfl, rfl⟩

@[simp] theorem State.advanceC8_fields (s : State) :
    (s.advanceC8).config = s.config ∧
    (s.advanceC8).status = s.status ∧
    (s.advanceC8).lastOpcode = s.lastOpcode ∧
    (s.advanceC8).lr = s.lr ∧
    (s.advanceC8).response = s.response ∧
    (s.advanceC8).draws = s.draws ∧
    (s.advanceC8).c8 = { s.c8 with pc := s.c8.pc + 2#16 } :=
  ⟨rfl, rfl, rfl, rfl, rfl, rfl, rfl⟩

@[simp] theorem State.setSp_fields (s : State) (v : Word) :
    (s.setSp v).config = s.config ∧
    (s.setSp v).status = s.status ∧
    (s.setSp v).lastOpcode = s.lastOpcode ∧
    (s.setSp v).c8 = s.c8 ∧
    (s.setSp v).response = s.response ∧
    (s.setSp v).draws = s.draws ∧
    (s.setSp v).lr = { s.lr with sp := v } :=
  ⟨rfl, rfl, rfl, rfl, rfl, rfl, rfl⟩

@[simp] theorem State.setLrPc_fields (s : State) (v : Word) :
    (s.setLrPc v).config = s.config ∧
    (s.setLrPc v).status = s.status ∧
    (s.setLrPc v).lastOpcode = s.lastOpcode ∧
    (s.setLrPc v).c8 = s.c8 ∧
    (s.setLrPc v).response = s.response ∧
    (s.setLrPc v).draws = s.draws ∧
    (s.setLrPc v).lr = { s.lr with pc := v } :=
  ⟨rfl, rfl, rfl, rfl, rfl, rfl, rfl⟩

@[simp] theorem State.setIme_fields (s : State) (b : Bool) :
    (s.setIme b).config = s.config ∧
    (s.setIme b).status = s.status ∧
    (s.setIme b).lastOpcode = s.lastOpcode ∧
    (s.setIme b).c8 = s.c8 ∧
    (s.setIme b).response = s.response ∧
    (s.setIme b).draws = s.draws ∧
    (s.setIme b).lr = { s.lr with ime := b } :=
  ⟨rfl, rfl, rfl, rfl, rfl, rfl, rfl⟩

@[simp] theorem State.setEiPending_fields (s : State) (b : Bool) :
    (s.setEiPending b).config = s.config ∧
    (s.setEiPending b).status = s.status ∧
    (s.setEiPending b).lastOpcode = s.lastOpcode ∧
    (s.setEiPending b).c8 = s.c8 ∧
    (s.setEiPending b).response = s.response ∧
    (s.setEiPending b).draws = s.draws ∧
    (s.setEiPending b).lr = { s.lr with eiPending := b } :=
  ⟨rfl, rfl, rfl, rfl, rfl, rfl, rfl⟩

@[simp] theorem State.setSkipNext_fields (s : State) (b : Bool) :
    (s.setSkipNext b).config = s.config ∧
    (s.setSkipNext b).status = s.status ∧
    (s.setSkipNext b).lastOpcode = s.lastOpcode ∧
    (s.setSkipNext b).c8 = s.c8 ∧
    (s.setSkipNext b).response = s.response ∧
    (s.setSkipNext b).draws = s.draws ∧
    (s.setSkipNext b).lr = { s.lr with skipNext := b } :=
  ⟨rfl, rfl, rfl, rfl, rfl, rfl, rfl⟩

@[simp] theorem State.setLrMem_fields (s : State) (m : Memory) :
    (s.setLrMem m).config = s.config ∧
    (s.setLrMem m).status = s.status ∧
    (s.setLrMem m).lastOpcode = s.lastOpcode ∧
    (s.setLrMem m).c8 = s.c8 ∧
    (s.setLrMem m).response = s.response ∧
    (s.setLrMem m).draws = s.draws ∧
    (s.setLrMem m).lr = { s.lr with mem := m } :=
  ⟨rfl, rfl, rfl, rfl, rfl, rfl, rfl⟩

@[simp] theorem State.setButtons_fields (s : State) (b : Vector Bool 8) :
    (s.setButtons b).config = s.config ∧
    (s.setButtons b).status = s.status ∧
    (s.setButtons b).lastOpcode = s.lastOpcode ∧
    (s.setButtons b).c8 = s.c8 ∧
    (s.setButtons b).response = s.response ∧
    (s.setButtons b).draws = s.draws ∧
    (s.setButtons b).lr = { s.lr with buttons := b } :=
  ⟨rfl, rfl, rfl, rfl, rfl, rfl, rfl⟩

@[simp] theorem State.writeF_fields (s : State) (v : Byte) :
    (s.writeF v).config = s.config ∧
    (s.writeF v).status = s.status ∧
    (s.writeF v).lastOpcode = s.lastOpcode ∧
    (s.writeF v).c8 = s.c8 ∧
    (s.writeF v).response = s.response ∧
    (s.writeF v).draws = s.draws ∧
    (s.writeF v).lr = { s.lr with f := v &&& 0x0F#8 } :=
  ⟨rfl, rfl, rfl, rfl, rfl, rfl, rfl⟩

@[simp] theorem State.setFlags_fields (s : State) (fl : Flags) :
    (s.setFlags fl).config = s.config ∧
    (s.setFlags fl).status = s.status ∧
    (s.setFlags fl).lastOpcode = s.lastOpcode ∧
    (s.setFlags fl).c8 = s.c8 ∧
    (s.setFlags fl).response = s.response ∧
    (s.setFlags fl).draws = s.draws ∧
    (s.setFlags fl).lr = { s.lr with f := flagByte fl &&& 0x0F#8 } :=
  ⟨rfl, rfl, rfl, rfl, rfl, rfl, rfl⟩

@[simp] theorem State.advanceLr_fields (s : State) (len : Nat) :
    (s.advanceLr len).config = s.config ∧
    (s.advanceLr len).status = s.status ∧
    (s.advanceLr len).lastOpcode = s.lastOpcode ∧
    (s.advanceLr len).c8 = s.c8 ∧
    (s.advanceLr len).response = s.response ∧
    (s.advanceLr len).draws = s.draws ∧
    (s.advanceLr len).lr = { s.lr with pc := s.lr.pc + BitVec.ofNat 16 len } :=
  ⟨rfl, rfl, rfl, rfl, rfl, rfl, rfl⟩

@[simp] theorem State.lrPoke_fields (s : State) (a : Word) (v : Byte) :
    (s.lrPoke a v).config = s.config ∧
    (s.lrPoke a v).status = s.status ∧
    (s.lrPoke a v).lastOpcode = s.lastOpcode ∧
    (s.lrPoke a v).c8 = s.c8 ∧
    (s.lrPoke a v).response = s.response ∧
    (s.lrPoke a v).draws = s.draws ∧
    (s.lrPoke a v).lr = { s.lr with mem := writeCell unlistedLr s.lr.mem a.toNat v } :=
  ⟨rfl, rfl, rfl, rfl, rfl, rfl, rfl⟩

@[simp] theorem State.respond_fields (s : State) (r : Response) :
    (s.respond r).config = s.config ∧
    (s.respond r).status = s.status ∧
    (s.respond r).lastOpcode = s.lastOpcode ∧
    (s.respond r).c8 = s.c8 ∧
    (s.respond r).lr = s.lr ∧
    (s.respond r).response = r ∧
    (s.respond r).draws = s.draws :=
  ⟨rfl, rfl, rfl, rfl, rfl, rfl, rfl⟩

@[simp] theorem State.setStatus_fields (s : State) (st : Status) :
    (s.setStatus st).config = s.config ∧
    (s.setStatus st).status = st ∧
    (s.setStatus st).lastOpcode = s.lastOpcode ∧
    (s.setStatus st).c8 = s.c8 ∧
    (s.setStatus st).lr = s.lr ∧
    (s.setStatus st).response = s.response ∧
    (s.setStatus st).draws = s.draws :=
  ⟨rfl, rfl, rfl, rfl, rfl, rfl, rfl⟩

@[simp] theorem State.recordFetch_fields (s : State) (pc : Word) (bytes : List Byte) :
    (s.recordFetch pc bytes).config = s.config ∧
    (s.recordFetch pc bytes).status = s.status ∧
    (s.recordFetch pc bytes).lastOpcode = some ⟨pc, bytes⟩ ∧
    (s.recordFetch pc bytes).c8 = s.c8 ∧
    (s.recordFetch pc bytes).lr = s.lr ∧
    (s.recordFetch pc bytes).response = s.response ∧
    (s.recordFetch pc bytes).draws = s.draws :=
  ⟨rfl, rfl, rfl, rfl, rfl, rfl, rfl⟩

@[simp] theorem State.countDraw_fields (s : State) :
    (s.countDraw).config = s.config ∧
    (s.countDraw).status = s.status ∧
    (s.countDraw).lastOpcode = s.lastOpcode ∧
    (s.countDraw).c8 = s.c8 ∧
    (s.countDraw).lr = s.lr ∧
    (s.countDraw).response = s.response ∧
    (s.countDraw).draws = s.draws + 1 :=
  ⟨rfl, rfl, rfl, rfl, rfl, rfl, rfl⟩

@[simp] theorem State.crash_fields (s : State) (f : Failure) :
    (s.crash f).config = s.config ∧
    (s.crash f).status = .crashed f ∧
    (s.crash f).lastOpcode = s.lastOpcode ∧
    (s.crash f).c8 = s.c8 ∧
    (s.crash f).lr = s.lr ∧
    (s.crash f).response = .err f ∧
    (s.crash f).draws = s.draws :=
  ⟨rfl, rfl, rfl, rfl, rfl, rfl, rfl⟩

/-- Writing a register changes no state outside the seven. -/
@[simp] theorem State.setReg_fields (s : State) (r : Reg8) (v : Byte) :
    (s.setReg r v).config = s.config ∧ (s.setReg r v).status = s.status ∧
    (s.setReg r v).lastOpcode = s.lastOpcode ∧ (s.setReg r v).c8 = s.c8 ∧
    (s.setReg r v).response = s.response ∧ (s.setReg r v).draws = s.draws ∧
    (s.setReg r v).lr.f = s.lr.f ∧ (s.setReg r v).lr.sp = s.lr.sp ∧ (s.setReg r v).lr.pc = s.lr.pc ∧
    (s.setReg r v).lr.ime = s.lr.ime ∧ (s.setReg r v).lr.eiPending = s.lr.eiPending ∧
    (s.setReg r v).lr.skipNext = s.lr.skipNext ∧ (s.setReg r v).lr.mem = s.lr.mem ∧
    (s.setReg r v).lr.buttons = s.lr.buttons := by
  cases r <;> exact ⟨rfl, rfl, rfl, rfl, rfl, rfl, rfl, rfl, rfl, rfl, rfl, rfl, rfl, rfl⟩

/-- A register reads as written, and writing one leaves the others. -/
@[simp] theorem State.reg_setReg (s : State) (r r' : Reg8) (v : Byte) :
    (s.setReg r v).reg r' = if r' = r then v else s.reg r' := by
  cases r <;> cases r' <;> rfl

/-- The registers by name are the registers by code (R41). -/
theorem State.reg_fields (s : State) :
    s.reg .a = s.lr.a ∧ s.reg .b = s.lr.b ∧ s.reg .c = s.lr.c ∧ s.reg .d = s.lr.d ∧ s.reg .e = s.lr.e ∧
    s.reg .h = s.lr.h ∧ s.reg .l = s.lr.l :=
  ⟨rfl, rfl, rfl, rfl, rfl, rfl, rfl⟩

/-- `V[x]` reads as written, and writing one leaves the others. -/
@[simp] theorem State.vx_setV (s : State) (x x' : VReg) (v : Byte) :
    (s.setV x v).vx x' = if x' = x then v else s.vx x' := by
  simp only [State.vx, State.setV, Vector.getElem_set]
  split <;> split <;> simp_all [Fin.ext_iff, eq_comm]

end Sys2Proof.Machine
end

