-- ==== Sys2Proof/Laws/Ops.lean ====
section
/-! SUPPORT. What each shared operation can do, said once: the end of an instruction, the access primitives
(R72 to R75), the stacks (R80 to R83), the flags (R43), the wake checks (R395, R396), the fetch (R133, R134)
and the interrupt entry and return (R385, R386). -/

namespace Sys2Proof.Machine

/-! ## The end of an instruction -/

@[simp] theorem finish_ok (s t : State) (n : Nat) : finish s n (.ok t) = .next (t.respond (.cycles n)) := rfl

@[simp] theorem finish_error (s : State) (n : Nat) (f : Failure) : finish s n (.error f) = .next (s.crash f) := rfl

/-- An instruction ends in a next state: the operation's with its cycle count, or the start with a crash. -/
theorem finish_cases (s : State) (n : Nat) (r : Except Failure State) :
    (∃ t, r = .ok t ∧ finish s n r = .next (t.respond (.cycles n))) ∨
    (∃ f, r = .error f ∧ finish s n r = .next (s.crash f)) := by
  cases r with
  | ok t => exact .inl ⟨t, rfl, rfl⟩
  | error f => exact .inr ⟨f, rfl, rfl⟩

/-! ## Protection -/

/-- Protection depends on the configuration only. -/
theorem readOnlyAt_congr {s t : State} (h : t.config = s.config) (a : Nat) : t.readOnlyAt a = s.readOnlyAt a := by
  simp only [State.readOnlyAt, h]

/-! ## Bytes -/

@[simp] theorem lrRead_lrPoke (s : State) (a b : Word) (v : Byte) :
    (s.lrPoke a v).lrRead b = if b = a then v else s.lrRead b := by
  simp only [State.lrRead, State.lrPoke_fields, readCell_writeCell, BitVec.toNat_inj]

/-- The byte read depends on `mem` only. -/
theorem lrRead_congr {s t : State} (h : t.lr.mem = s.lr.mem) (a : Word) : t.lrRead a = s.lrRead a := by
  simp only [State.lrRead, h]

/-- The byte read depends on `mem` only. -/
theorem c8Byte_congr {s t : State} (h : t.c8.mem = s.c8.mem) (a : Nat) : t.c8Byte a = s.c8Byte a := by
  simp only [State.c8Byte, h]

/-- The bytes a store of variant C8 leaves. -/
theorem c8Byte_setC8Mem_writeCells (s : State) (a b : Nat) (vs : List Byte) :
    (s.setC8Mem (writeCells unlistedC8 s.c8.mem a vs)).c8Byte b =
      if h : a ≤ b ∧ b - a < vs.length then vs[b - a] else s.c8Byte b := by
  simp only [State.c8Byte, State.setC8Mem_fields, readCell_writeCells]

/-! ## Access primitives -/

/-- A store of variant LR is refused exactly at a protected byte (R75). -/
theorem lrWrite_eq (s : State) (a : Word) (v : Byte) :
    (s.readOnlyAt a.toNat = false → s.lrWrite a v = .ok (s.lrPoke a v)) ∧
    (s.readOnlyAt a.toNat = true → s.lrWrite a v = .error (.invalidMemoryAccess a.toNat)) := by
  constructor <;> intro h <;> simp [State.lrWrite, h]

/-- A 16-bit store (R75): both bytes, or the failure of the first that is protected. -/
theorem lrWrite16_eq (s : State) (a v : Word) :
    (s.readOnlyAt a.toNat = false → s.readOnlyAt (a + 1#16).toNat = false →
      s.lrWrite16 a v = .ok ((s.lrPoke a (loByte v)).lrPoke (a + 1#16) (hiByte v))) ∧
    (s.readOnlyAt a.toNat = true → s.lrWrite16 a v = .error (.invalidMemoryAccess a.toNat)) ∧
    (s.readOnlyAt a.toNat = false → s.readOnlyAt (a + 1#16).toNat = true →
      s.lrWrite16 a v = .error (.invalidMemoryAccess (a + 1#16).toNat)) := by
  have hc := readOnlyAt_congr (s := s) (t := s.lrPoke a (v.extractLsb' 0 8)) (by simp) (a + 1#16).toNat
  refine ⟨fun h h' => ?_, fun h => ?_, fun h h' => ?_⟩
  · rw [State.lrWrite16, (lrWrite_eq _ _ _).1 h]
    exact (lrWrite_eq _ _ _).1 (hc.trans h')
  · rw [State.lrWrite16, (lrWrite_eq _ _ _).2 h]
    rfl
  · rw [State.lrWrite16, (lrWrite_eq _ _ _).1 h]
    exact (lrWrite_eq _ _ _).2 (hc.trans h')

/-- A read of variant C8 is refused at the first address outside (R72). -/
theorem c8Read_eq (s : State) (a n : Nat) :
    (n = 0 ∨ a + n ≤ 0x1000 → s.c8Read a n = .ok ((List.range n).map (fun k => s.c8Byte (a + k)))) ∧
    (∀ k, FirstFailure (fun a => decide (0xFFF < a)) a n k →
      s.c8Read a n = .error (.invalidMemoryAccess (a + k))) := by
  refine ⟨fun h => ?_, fun k ⟨hk, hf, hj⟩ => ?_⟩
  · have : (List.range n).find? (fun k => c8ReadFails (a + k)) = none := by
      simp only [List.find?_eq_none, List.mem_range, c8ReadFails, decide_eq_true_eq]
      omega
    rw [State.c8Read, this]
  · have : (List.range n).find? (fun k => c8ReadFails (a + k)) = some k := by
      rw [List.find?_range_eq_some]
      exact ⟨hf, List.mem_range.2 hk, fun j h => by simpa [c8ReadFails] using hj j h⟩
    rw [State.c8Read, this]

/-- A store of variant C8 is refused at the first byte that cannot be written (R73). -/
theorem c8Write_eq (s : State) (a : Nat) (vs : List Byte) :
    ((∀ k < vs.length, s.c8WriteFails (a + k) = false) →
      s.c8Write a vs = .ok (s.setC8Mem (writeCells unlistedC8 s.c8.mem a vs))) ∧
    (∀ k, FirstFailure s.c8WriteFails a vs.length k → s.c8Write a vs = .error (.invalidMemoryAccess (a + k))) := by
  refine ⟨fun h => ?_, fun k ⟨hk, hf, hj⟩ => ?_⟩
  · have : (List.range vs.length).find? (fun k => s.c8WriteFails (a + k)) = none := by
      simp only [List.find?_eq_none, List.mem_range]
      intro k hk
      simp [h k hk]
    rw [State.c8Write, this]
  · have : (List.range vs.length).find? (fun k => s.c8WriteFails (a + k)) = some k := by
      rw [List.find?_range_eq_some]
      exact ⟨hf, List.mem_range.2 hk, fun j h => by simpa using hj j h⟩
    rw [State.c8Write, this]

/-! ## Stacks -/

/-- `Push16` (R82): the two bytes below `SP`, or a failure; the stack check comes first. -/
theorem push16_eq (s : State) (v : Word) :
    (s.CanPush → s.push16 v = .ok (((s.setSp (s.lr.sp - 2#16)).lrPoke (s.lr.sp - 2#16) (loByte v)).lrPoke
      (s.lr.sp - 1#16) (hiByte v))) ∧
    (s.lr.sp.toNat < 2 → s.push16 v = .error (.invalidStackAccess s.lr.sp.toNat)) := by
  refine ⟨fun ⟨h2, h0, h1⟩ => ?_, fun h => by rw [State.push16, if_pos h]⟩
  have ha : s.lr.sp - 2#16 + 1#16 = s.lr.sp - 1#16 := by bv_omega
  have := (lrWrite16_eq (s.setSp (s.lr.sp - 2#16)) (s.lr.sp - 2#16) v).1
  rw [ha] at this
  rw [State.push16, if_neg (by omega)]
  exact this h0 h1

/-- `Push16` (R82) where a byte is protected: the failure names the first of the two in the order of R75
(log 24). -/
theorem push16_protected (s : State) (v : Word) (h2 : 2 ≤ s.lr.sp.toNat) :
    (s.readOnlyAt (s.lr.sp - 2#16).toNat = true →
      s.push16 v = .error (.invalidMemoryAccess (s.lr.sp - 2#16).toNat)) ∧
    (s.readOnlyAt (s.lr.sp - 2#16).toNat = false → s.readOnlyAt (s.lr.sp - 1#16).toNat = true →
      s.push16 v = .error (.invalidMemoryAccess (s.lr.sp - 1#16).toNat)) := by
  have ha : s.lr.sp - 2#16 + 1#16 = s.lr.sp - 1#16 := by bv_omega
  have hw := (lrWrite16_eq (s.setSp (s.lr.sp - 2#16)) (s.lr.sp - 2#16) v).2
  rw [ha] at hw
  rw [State.push16, if_neg (by omega)]
  exact hw

/-- `Pop16` (R83): the two bytes from `SP` up, or a failure. -/
theorem pop16_eq (s : State) :
    (s.lr.sp.toNat ≤ 0xFFFD → s.pop16 = .ok (s.top16, s.setSp (s.lr.sp + 2#16))) ∧
    (0xFFFD < s.lr.sp.toNat → s.pop16 = .error (.invalidStackAccess s.lr.sp.toNat)) := by
  constructor <;> intro h
  · rw [State.pop16, if_neg (by omega)]
    rfl
  · rw [State.pop16, if_pos h]

/-- Push of variant C8 (R80). -/
theorem push_eq (s : State) (v : Word) :
    (∀ h : s.c8.sp.val < 16,
      s.push v = .ok ((s.setStack ⟨s.c8.sp.val, h⟩ v).setC8Sp ⟨s.c8.sp.val + 1, by omega⟩)) ∧
    (s.c8.sp.val = 16 → s.push v = .error (.invalidStackAccess 16)) := by
  refine ⟨fun h => by rw [State.push, dif_pos h], fun h => by rw [State.push, dif_neg (by omega), h]⟩

/-- Pop of variant C8 (R81). -/
theorem pop_eq (s : State) :
    (∀ _ : 0 < s.c8.sp.val,
      s.pop = .ok (s.c8.stack[s.c8.sp.val - 1], s.setC8Sp ⟨s.c8.sp.val - 1, by omega⟩)) ∧
    (s.c8.sp.val = 0 → s.pop = .error (.invalidStackAccess 0)) := by
  refine ⟨fun h => by rw [State.pop, dif_neg (by omega)], fun h => by rw [State.pop, dif_pos h, h]⟩

/-! ## Flags -/

/-- The flags read as written (R43). -/
@[simp] theorem flags_setFlags (s : State) (fl : Flags) : (s.setFlags fl).flags = fl := by
  have hb : ∀ z n h c : Bool, (flagByte ⟨z, n, h, c⟩ &&& 0x0F#8).getLsbD 3 = z ∧
      (flagByte ⟨z, n, h, c⟩ &&& 0x0F#8).getLsbD 2 = n ∧ (flagByte ⟨z, n, h, c⟩ &&& 0x0F#8).getLsbD 1 = h ∧
      (flagByte ⟨z, n, h, c⟩ &&& 0x0F#8).getLsbD 0 = c := by decide
  obtain ⟨z, n, h, c⟩ := fl
  obtain ⟨hz, hn, hh, hc⟩ := hb z n h c
  simp only [State.flags, State.setFlags_fields, hz, hn, hh, hc]

/-- `F` as a number after the flags are written. -/
theorem hasFlags_setFlags (s : State) (z n h c : Bool) : (s.setFlags ⟨z, n, h, c⟩).HasFlags z n h c := by
  cases z <;> cases n <;> cases h <;> cases c <;> rfl

/-- Writing `F` leaves bits 7..4 zero (R43). -/
theorem flagsWf_writeF (s : State) (v : Byte) : (s.writeF v).FlagsWf := by
  show v &&& 0x0F#8 &&& 0xF0#8 = 0x00#8
  rw [BitVec.and_assoc]
  exact BitVec.and_zero

/-! ## Interrupts and waking -/

/-- `pending` (R383) source by source. -/
theorem pending_iff (s : State) :
    s.pending = true ↔ ∃ k < 5, (s.lrRead ieAddr).getLsbD k = true ∧ (s.lrRead ifAddr).getLsbD k = true := by
  have hbit : ∀ k, s.pendingSources.getLsbD k =
      ((s.lrRead ieAddr).getLsbD k && (s.lrRead ifAddr).getLsbD k && (0x1F#8).getLsbD k) := fun k => by
    simp [State.pendingSources, BitVec.getLsbD_and]
  have hlow : ∀ k < 5, (0x1F#8).getLsbD k = true := by decide
  have hhigh : ∀ k, 5 ≤ k → (0x1F#8).getLsbD k = false := fun k hk => by
    by_cases h8 : k < 8
    · interval_cases k <;> rfl
    · exact BitVec.getLsbD_of_ge _ _ (by omega)
  simp only [State.pending, bne_iff_ne, ne_eq]
  constructor
  · intro h
    by_contra hno
    refine h (BitVec.eq_of_getLsbD_eq fun k hk => ?_)
    by_cases h5 : k < 5
    · have : ¬ ((s.lrRead ieAddr).getLsbD k = true ∧ (s.lrRead ifAddr).getLsbD k = true) :=
        fun hh => hno ⟨k, h5, hh⟩
      rw [hbit, hlow k h5]
      simpa using this
    · simp [hbit, hhigh k (by omega)]
  · rintro ⟨k, h5, he, hf⟩ h0
    have := hbit k
    rw [h0, he, hf, hlow k h5] at this
    simp at this

/-- The wake check of variant LR (R396) changes nothing but the status, and that only from `Halted`. -/
theorem wakeLr_eq (s : State) :
    s.wakeLr = if s.status = .halted ∧ s.pending = true then s.setStatus .running else s := rfl

/-- The wake check of a step is that of the instance's variant (R130, P2). -/
theorem wakeCheck_eq (s : State) :
    (s.config.system = .c8 → s.wakeCheck = s.wakeC8) ∧ (s.config.system = .lr → s.wakeCheck = s.wakeLr) := by
  constructor <;> intro h <;> simp only [State.wakeCheck, h]

/-- The least held key is the one a wake check takes (R395). -/
theorem leastKey_eq_some (keys : Vector Bool 16) (k : Fin 16) :
    leastKey keys = some k ↔ keys[k.val] = true ∧ ∀ j : Fin 16, j < k → keys[j.val] = false := by
  rw [leastKey, List.find?_eq_some_iff_getElem]
  simp only [List.getElem_finRange, List.length_finRange]
  constructor
  · rintro ⟨hk, i, hi, rfl, hj⟩
    exact ⟨hk, fun j h => by simpa using hj j.val h⟩
  · rintro ⟨hk, hj⟩
    exact ⟨hk, k.val, k.isLt, rfl, fun j h => by simpa using hj ⟨j, by omega⟩ h⟩

/-- No key is the least one where none is held. -/
theorem leastKey_eq_none (keys : Vector Bool 16) : leastKey keys = none ↔ ∀ j : Fin 16, keys[j.val] = false := by
  simp [leastKey, List.find?_eq_none]

/-- The EI commit (R132): `IME` is set where `ei_pending` was, which is cleared; variant LR only. -/
theorem commitEi_eq (s : State) :
    s.commitEi = match s.config.system with
      | .c8 => s
      | .lr => { s with lr := { s.lr with ime := s.lr.ime || s.lr.eiPending, eiPending := false } } := by
  unfold State.commitEi
  cases s.config.system with
  | c8 => rfl
  | lr =>
    rcases s with ⟨cf, st, lo, c8, ⟨a, f, b, c, d, e, h, l, sp, pc, ime, ei, sk, mem, bt⟩, re, dr⟩
    cases ei <;> cases ime <;> rfl

/-- The fetch does not change with the EI commit. -/
theorem fetchBytes_commitEi (s : State) : s.commitEi.fetchBytes = s.fetchBytes := by
  have hc : s.commitEi.config = s.config ∧ s.commitEi.c8 = s.c8 ∧ s.commitEi.lr.pc = s.lr.pc ∧
      s.commitEi.lr.mem = s.lr.mem := by
    rw [commitEi_eq]
    split <;> exact ⟨rfl, rfl, rfl, rfl⟩
  obtain ⟨h1, h2, h3, h4⟩ := hc
  have hr := lrRead_congr h4
  simp only [State.fetchBytes, State.c8Read, State.c8Byte, h1, h2, h3, hr]

end Sys2Proof.Machine
end

