-- ==== Sys2Proof/Laws/Frame.lean ====
section
/-! SUPPORT. The frame of each named update, and how frames compose: the frame of an instruction is that of its
updates one after another. -/

namespace Sys2Proof.Machine

/-! ## Composition -/

/-- Nothing written, nothing changed. -/
theorem State.Frame.refl (s : State) : s.Frame [] s := by
  intro p _
  cases p <;> rfl

/-- A part the same twice is the same. -/
theorem Part.Same.trans {s t u : State} {p : Part} (h : p.Same s t) (h' : p.Same t u) : p.Same s u := by
  cases p <;> exact Eq.trans h' h

/-- What two steps write is what both lists name. -/
theorem State.Frame.trans {s t u : State} {w w' : List Part} (h : s.Frame w t) (h' : t.Frame w' u) :
    s.Frame (w ++ w') u := fun p hp =>
  (h p fun hw => hp (List.mem_append_left _ hw)).trans (h' p fun hw => hp (List.mem_append_right _ hw))

/-- A longer list says less. -/
theorem State.Frame.mono {s t : State} {w w' : List Part} (h : s.Frame w t) (hw : ∀ p ∈ w, p ∈ w') : s.Frame w' t :=
  fun p hp => h p fun h' => hp (hw p h')

/-- A part that holds what it held drops out of the list. -/
theorem State.Frame.drop {s t : State} {w w' : List Part} (h : s.Frame w t)
    (hw : ∀ p ∈ w, p ∈ w' ∨ p.Same s t) : s.Frame w' t := fun p hp => by
  by_cases h' : p ∈ w
  · exact (hw p h').resolve_left hp
  · exact h p h'

/-! ## Named updates -/

theorem frame_setV (s : State) (x : VReg) (v : Byte) : s.Frame [.v x] (s.setV x v) := by
  intro p hp
  cases p <;> first | rfl | exact absurd (List.mem_singleton_self _) hp | skip
  rename_i x'
  rw [List.mem_singleton, Part.v.injEq] at hp
  simp [Part.Same, hp]

theorem frame_setI (s : State) (v : Word) : s.Frame [.i] (s.setI v) := by
  intro p hp
  cases p <;> first | rfl | exact absurd (List.mem_singleton_self _) hp

theorem frame_setC8Pc (s : State) (v : Word) : s.Frame [.c8Pc] (s.setC8Pc v) := by
  intro p hp
  cases p <;> first | rfl | exact absurd (List.mem_singleton_self _) hp

theorem frame_setC8Sp (s : State) (v : Fin 17) : s.Frame [.c8Sp] (s.setC8Sp v) := by
  intro p hp
  cases p <;> first | rfl | exact absurd (List.mem_singleton_self _) hp

theorem frame_setStack (s : State) (k : Fin 16) (v : Word) : s.Frame [.stack k] (s.setStack k v) := by
  intro p hp
  cases p <;> first | rfl | exact absurd (List.mem_singleton_self _) hp | skip
  rename_i k'
  rw [List.mem_singleton, Part.stack.injEq] at hp
  simpa [Part.Same] using Vector.getElem_set_ne _ _ (fun h => hp (Fin.ext h).symm)

theorem frame_setDt (s : State) (v : Byte) : s.Frame [.dt] (s.setDt v) := by
  intro p hp
  cases p <;> first | rfl | exact absurd (List.mem_singleton_self _) hp

theorem frame_setSt (s : State) (v : Byte) : s.Frame [.st] (s.setSt v) := by
  intro p hp
  cases p <;> first | rfl | exact absurd (List.mem_singleton_self _) hp

theorem frame_setFb (s : State) (fb : Framebuffer) : s.Frame [.fb] (s.setFb fb) := by
  intro p hp
  cases p <;> first | rfl | exact absurd (List.mem_singleton_self _) hp

theorem frame_setKeys (s : State) (k : Vector Bool 16) : s.Frame [.keys] (s.setKeys k) := by
  intro p hp
  cases p <;> first | rfl | exact absurd (List.mem_singleton_self _) hp

theorem frame_setWaitReg (s : State) (x : VReg) : s.Frame [.waitReg] (s.setWaitReg x) := by
  intro p hp
  cases p <;> first | rfl | exact absurd (List.mem_singleton_self _) hp

theorem frame_setSp (s : State) (v : Word) : s.Frame [.sp] (s.setSp v) := by
  intro p hp
  cases p <;> first | rfl | exact absurd (List.mem_singleton_self _) hp

theorem frame_setLrPc (s : State) (v : Word) : s.Frame [.lrPc] (s.setLrPc v) := by
  intro p hp
  cases p <;> first | rfl | exact absurd (List.mem_singleton_self _) hp

theorem frame_setIme (s : State) (b : Bool) : s.Frame [.ime] (s.setIme b) := by
  intro p hp
  cases p <;> first | rfl | exact absurd (List.mem_singleton_self _) hp

theorem frame_setEiPending (s : State) (b : Bool) : s.Frame [.eiPending] (s.setEiPending b) := by
  intro p hp
  cases p <;> first | rfl | exact absurd (List.mem_singleton_self _) hp

theorem frame_setSkipNext (s : State) (b : Bool) : s.Frame [.skipNext] (s.setSkipNext b) := by
  intro p hp
  cases p <;> first | rfl | exact absurd (List.mem_singleton_self _) hp

theorem frame_setButtons (s : State) (b : Vector Bool 8) : s.Frame [.buttons] (s.setButtons b) := by
  intro p hp
  cases p <;> first | rfl | exact absurd (List.mem_singleton_self _) hp

theorem frame_writeF (s : State) (v : Byte) : s.Frame [.flags] (s.writeF v) := by
  intro p hp
  cases p <;> first | rfl | exact absurd (List.mem_singleton_self _) hp

theorem frame_setFlags (s : State) (fl : Flags) : s.Frame [.flags] (s.setFlags fl) := by
  intro p hp
  cases p <;> first | rfl | exact absurd (List.mem_singleton_self _) hp

theorem frame_advanceC8 (s : State) : s.Frame [.c8Pc] (s.advanceC8) := by
  intro p hp
  cases p <;> first | rfl | exact absurd (List.mem_singleton_self _) hp

theorem frame_advanceLr (s : State) (len : Nat) : s.Frame [.lrPc] (s.advanceLr len) := by
  intro p hp
  cases p <;> first | rfl | exact absurd (List.mem_singleton_self _) hp

theorem frame_respond (s : State) (r : Response) : s.Frame [] (s.respond r) := by
  intro p hp
  cases p <;> first | rfl

theorem frame_setStatus (s : State) (st : Status) : s.Frame [.status] (s.setStatus st) := by
  intro p hp
  cases p <;> first | rfl | exact absurd (List.mem_singleton_self _) hp

theorem frame_recordFetch (s : State) (pc : Word) (bytes : List Byte) : s.Frame [.lastOpcode] (s.recordFetch pc bytes) := by
  intro p hp
  cases p <;> first | rfl | exact absurd (List.mem_singleton_self _) hp

theorem frame_countDraw (s : State) : s.Frame [.draws] (s.countDraw) := by
  intro p hp
  cases p <;> first | rfl | exact absurd (List.mem_singleton_self _) hp

theorem frame_crash (s : State) (f : Failure) : s.Frame [.status] (s.crash f) := by
  intro p hp
  cases p <;> first | rfl | exact absurd (List.mem_singleton_self _) hp

theorem frame_setReg (s : State) (r : Reg8) (v : Byte) : s.Frame [.reg r] (s.setReg r v) := by
  intro p hp
  cases p <;> first | exact lrRead_congr (by simp) _ | (cases r <;> rfl) | skip
  rename_i r'
  rw [List.mem_singleton, Part.reg.injEq] at hp
  simp [Part.Same, hp]

theorem frame_lrPoke (s : State) (a : Word) (v : Byte) : s.Frame [.lrMem a] (s.lrPoke a v) := by
  intro p hp
  cases p <;> first | rfl | skip
  rename_i a'
  rw [List.mem_singleton, Part.lrMem.injEq] at hp
  simp [Part.Same, hp]

theorem frame_writeCells (s : State) (a : Nat) (vs : List Byte) :
    s.Frame ((List.range vs.length).map (fun k => .c8Mem (a + k)))
      (s.setC8Mem (writeCells unlistedC8 s.c8.mem a vs)) := by
  intro p hp
  cases p <;> first | rfl | skip
  rename_i b
  have hb : ¬ (a ≤ b ∧ b - a < vs.length) := fun h =>
    hp (List.mem_map.2 ⟨b - a, List.mem_range.2 h.2, by rw [Nat.add_sub_cancel' h.1]⟩)
  rw [Part.Same, c8Byte_setC8Mem_writeCells, dif_neg hb]

theorem frame_setVWithFlag (s : State) (x : VReg) (r : Byte × Bool) :
    s.Frame [.v x, .v vf] (s.setVWithFlag x r) :=
  (frame_setV s x r.1).trans (frame_setV _ vf _)

theorem frame_setPair (s : State) (p : Pair) (w : Word) : s.Frame (pairParts p) (s.setPair p w) := by
  cases p
  · exact (frame_setReg s .b _).trans (frame_setReg _ .c _)
  · exact (frame_setReg s .d _).trans (frame_setReg _ .e _)
  · exact (frame_setReg s .h _).trans (frame_setReg _ .l _)
  · exact frame_setSp s w

theorem frame_setStackPair (s : State) (p : StackPair) (w : Word) :
    s.Frame (stackPairParts p) (s.setStackPair p w) := by
  cases p
  · exact (frame_setReg s .b _).trans (frame_setReg _ .c _)
  · exact (frame_setReg s .d _).trans (frame_setReg _ .e _)
  · exact (frame_setReg s .h _).trans (frame_setReg _ .l _)
  · exact (frame_setReg s .a _).trans (frame_writeF _ _)

theorem frame_setHl (s : State) (w : Word) : s.Frame [.reg .h, .reg .l] (s.setHl w) :=
  frame_setPair s .hl w

theorem frame_setAcc (s : State) (r : Byte × Flags) : s.Frame [.reg .a, .flags] (s.setAcc r) :=
  (frame_setReg s .a r.1).trans (frame_setFlags _ r.2)

/-- Writing an operand form writes its parts (R115). -/
theorem frame_setR8 {s t : State} {o : Operand8} {v : Byte} (h : s.setR8 o v = .ok t) :
    s.Frame (operandParts s o) t := by
  cases o with
  | reg r =>
    injection h with h
    exact h ▸ frame_setReg s r v
  | atHl =>
    by_cases hr : s.readOnlyAt s.hl.toNat = true
    · exact absurd (((lrWrite_eq s _ v).2 hr).symm.trans h) (by simp)
    · injection ((lrWrite_eq s _ v).1 (by simpa using hr)).symm.trans h with h
      exact h ▸ frame_lrPoke s _ v

/-- A failure changes the status only. -/
theorem frame_finish (s t : State) (n : Nat) (r : Except Failure State) (h : finish s n r = .next t) :
    (∃ u, r = .ok u ∧ u.Frame [] t) ∨ s.Frame [.status] t := by
  rcases finish_cases s n r with ⟨u, rfl, hu⟩ | ⟨f, rfl, hf⟩
  · injection hu.symm.trans h with h
    exact .inl ⟨u, rfl, h ▸ frame_respond u _⟩
  · injection hf.symm.trans h with h
    exact .inr (h ▸ frame_crash s f)

end Sys2Proof.Machine
end

