-- ==== Sys2Proof/Laws/PerInstr.lean ====
section
/-! SUPPORT. Statements for all instructions, made per instruction. -/

namespace Sys2Proof.Laws.Length

/-- The encoding of an instruction is as long as the instruction (R100, R111). -/
def Statement (i : Instr) : Prop :=
  (encode i).length = i.length

theorem c8Ret : Statement .c8Ret := rfl
theorem c8Sys (nnn : BitVec 12) : Statement (.c8Sys nnn) := rfl
theorem c8Jp (nnn : BitVec 12) : Statement (.c8Jp nnn) := rfl
theorem c8Call (nnn : BitVec 12) : Statement (.c8Call nnn) := rfl
theorem c8SeImm (x : VReg) (kk : Byte) : Statement (.c8SeImm x kk) := rfl
theorem c8SneImm (x : VReg) (kk : Byte) : Statement (.c8SneImm x kk) := rfl
theorem c8SeReg (x y : VReg) : Statement (.c8SeReg x y) := rfl
theorem c8SneReg (x y : VReg) : Statement (.c8SneReg x y) := rfl
theorem c8JpV0 (nnn : BitVec 12) : Statement (.c8JpV0 nnn) := rfl
theorem c8Skp (x : VReg) : Statement (.c8Skp x) := rfl
theorem c8Sknp (x : VReg) : Statement (.c8Sknp x) := rfl
theorem c8LdImm (x : VReg) (kk : Byte) : Statement (.c8LdImm x kk) := rfl
theorem c8AddImm (x : VReg) (kk : Byte) : Statement (.c8AddImm x kk) := rfl
theorem c8LdReg (x y : VReg) : Statement (.c8LdReg x y) := rfl
theorem c8Or (x y : VReg) : Statement (.c8Or x y) := rfl
theorem c8And (x y : VReg) : Statement (.c8And x y) := rfl
theorem c8Xor (x y : VReg) : Statement (.c8Xor x y) := rfl
theorem c8AddReg (x y : VReg) : Statement (.c8AddReg x y) := rfl
theorem c8Sub (x y : VReg) : Statement (.c8Sub x y) := rfl
theorem c8Shr (x y : VReg) : Statement (.c8Shr x y) := rfl
theorem c8Subn (x y : VReg) : Statement (.c8Subn x y) := rfl
theorem c8Shl (x y : VReg) : Statement (.c8Shl x y) := rfl
theorem c8LdI (nnn : BitVec 12) : Statement (.c8LdI nnn) := rfl
theorem c8Rnd (x : VReg) (kk : Byte) : Statement (.c8Rnd x kk) := rfl
theorem c8AddI (x : VReg) : Statement (.c8AddI x) := rfl
theorem c8Cls : Statement .c8Cls := rfl
theorem c8Drw (x y : VReg) (n : Fin 16) : Statement (.c8Drw x y n) := rfl
theorem c8LdVxDt (x : VReg) : Statement (.c8LdVxDt x) := rfl
theorem c8LdVxK (x : VReg) : Statement (.c8LdVxK x) := rfl
theorem c8LdDtVx (x : VReg) : Statement (.c8LdDtVx x) := rfl
theorem c8LdStVx (x : VReg) : Statement (.c8LdStVx x) := rfl
theorem c8LdF (x : VReg) : Statement (.c8LdF x) := rfl
theorem c8LdB (x : VReg) : Statement (.c8LdB x) := rfl
theorem c8StoreRegs (x : VReg) : Statement (.c8StoreRegs x) := rfl
theorem c8LoadRegs (x : VReg) : Statement (.c8LoadRegs x) := rfl
theorem lrLdRR (dst src : Reg8) : Statement (.lrLdRR dst src) := rfl
theorem lrLdRM (dst : Reg8) : Statement (.lrLdRM dst) := rfl
theorem lrLdMR (src : Reg8) : Statement (.lrLdMR src) := rfl
theorem lrLdRN (dst : Reg8) (d8 : Byte) : Statement (.lrLdRN dst d8) := rfl
theorem lrLdMN (d8 : Byte) : Statement (.lrLdMN d8) := rfl
theorem lrLdABc : Statement .lrLdABc := rfl
theorem lrLdADe : Statement .lrLdADe := rfl
theorem lrLdBcA : Statement .lrLdBcA := rfl
theorem lrLdDeA : Statement .lrLdDeA := rfl
theorem lrLdAA16 (a16 : Word) : Statement (.lrLdAA16 a16) := rfl
theorem lrLdA16A (a16 : Word) : Statement (.lrLdA16A a16) := rfl
theorem lrLdhAA8 (a8 : Byte) : Statement (.lrLdhAA8 a8) := rfl
theorem lrLdhA8A (a8 : Byte) : Statement (.lrLdhA8A a8) := rfl
theorem lrLdAC : Statement .lrLdAC := rfl
theorem lrLdCA : Statement .lrLdCA := rfl
theorem lrLdHliA : Statement .lrLdHliA := rfl
theorem lrLdAHli : Statement .lrLdAHli := rfl
theorem lrLdHldA : Statement .lrLdHldA := rfl
theorem lrLdAHld : Statement .lrLdAHld := rfl
theorem lrLdPairN (p : Pair) (d16 : Word) : Statement (.lrLdPairN p d16) := rfl
theorem lrLdA16Sp (a16 : Word) : Statement (.lrLdA16Sp a16) := rfl
theorem lrLdSpHl : Statement .lrLdSpHl := rfl
theorem lrLdHlSp (e : Byte) : Statement (.lrLdHlSp e) := rfl
theorem lrPush (p : StackPair) : Statement (.lrPush p) := rfl
theorem lrPop (p : StackPair) : Statement (.lrPop p) := rfl
theorem lrPopAf : Statement .lrPopAf := rfl
theorem lrAddR (r : Reg8) : Statement (.lrAddR r) := rfl
theorem lrAddM : Statement .lrAddM := rfl
theorem lrAddN (d8 : Byte) : Statement (.lrAddN d8) := rfl
theorem lrAdcR (r : Reg8) : Statement (.lrAdcR r) := rfl
theorem lrAdcM : Statement .lrAdcM := rfl
theorem lrAdcN (d8 : Byte) : Statement (.lrAdcN d8) := rfl
theorem lrSubR (r : Reg8) : Statement (.lrSubR r) := rfl
theorem lrSubM : Statement .lrSubM := rfl
theorem lrSubN (d8 : Byte) : Statement (.lrSubN d8) := rfl
theorem lrSbcR (r : Reg8) : Statement (.lrSbcR r) := rfl
theorem lrSbcM : Statement .lrSbcM := rfl
theorem lrSbcN (d8 : Byte) : Statement (.lrSbcN d8) := rfl
theorem lrAndR (r : Reg8) : Statement (.lrAndR r) := rfl
theorem lrAndM : Statement .lrAndM := rfl
theorem lrAndN (d8 : Byte) : Statement (.lrAndN d8) := rfl
theorem lrXorR (r : Reg8) : Statement (.lrXorR r) := rfl
theorem lrXorM : Statement .lrXorM := rfl
theorem lrXorN (d8 : Byte) : Statement (.lrXorN d8) := rfl
theorem lrOrR (r : Reg8) : Statement (.lrOrR r) := rfl
theorem lrOrM : Statement .lrOrM := rfl
theorem lrOrN (d8 : Byte) : Statement (.lrOrN d8) := rfl
theorem lrCpR (r : Reg8) : Statement (.lrCpR r) := rfl
theorem lrCpM : Statement .lrCpM := rfl
theorem lrCpN (d8 : Byte) : Statement (.lrCpN d8) := rfl
theorem lrIncR (r : Reg8) : Statement (.lrIncR r) := rfl
theorem lrIncM : Statement .lrIncM := rfl
theorem lrDecR (r : Reg8) : Statement (.lrDecR r) := rfl
theorem lrDecM : Statement .lrDecM := rfl
theorem lrDaa : Statement .lrDaa := rfl
theorem lrCpl : Statement .lrCpl := rfl
theorem lrScf : Statement .lrScf := rfl
theorem lrCcf : Statement .lrCcf := rfl
theorem lrAddHl (p : Pair) : Statement (.lrAddHl p) := rfl
theorem lrIncPair (p : Pair) : Statement (.lrIncPair p) := rfl
theorem lrDecPair (p : Pair) : Statement (.lrDecPair p) := rfl
theorem lrAddSp (e : Byte) : Statement (.lrAddSp e) := rfl
theorem lrRlca : Statement .lrRlca := rfl
theorem lrRrca : Statement .lrRrca := rfl
theorem lrRla : Statement .lrRla := rfl
theorem lrRra : Statement .lrRra := rfl
theorem lrRlcR (r : Reg8) : Statement (.lrRlcR r) := rfl
theorem lrRlcM : Statement .lrRlcM := rfl
theorem lrRrcR (r : Reg8) : Statement (.lrRrcR r) := rfl
theorem lrRrcM : Statement .lrRrcM := rfl
theorem lrRlR (r : Reg8) : Statement (.lrRlR r) := rfl
theorem lrRlM : Statement .lrRlM := rfl
theorem lrRrR (r : Reg8) : Statement (.lrRrR r) := rfl
theorem lrRrM : Statement .lrRrM := rfl
theorem lrSlaR (r : Reg8) : Statement (.lrSlaR r) := rfl
theorem lrSlaM : Statement .lrSlaM := rfl
theorem lrSraR (r : Reg8) : Statement (.lrSraR r) := rfl
theorem lrSraM : Statement .lrSraM := rfl
theorem lrSwapR (r : Reg8) : Statement (.lrSwapR r) := rfl
theorem lrSwapM : Statement .lrSwapM := rfl
theorem lrSrlR (r : Reg8) : Statement (.lrSrlR r) := rfl
theorem lrSrlM : Statement .lrSrlM := rfl
theorem lrBitR (b : Fin 8) (r : Reg8) : Statement (.lrBitR b r) := rfl
theorem lrBitM (b : Fin 8) : Statement (.lrBitM b) := rfl
theorem lrResR (b : Fin 8) (r : Reg8) : Statement (.lrResR b r) := rfl
theorem lrResM (b : Fin 8) : Statement (.lrResM b) := rfl
theorem lrSetR (b : Fin 8) (r : Reg8) : Statement (.lrSetR b r) := rfl
theorem lrSetM (b : Fin 8) : Statement (.lrSetM b) := rfl
theorem lrPrefixCb (b1 : Byte) : Statement (.lrPrefixCb b1) := rfl
theorem lrNop : Statement .lrNop := rfl
theorem lrJp (a16 : Word) : Statement (.lrJp a16) := rfl
theorem lrJpCc (cc : Cond) (a16 : Word) : Statement (.lrJpCc cc a16) := rfl
theorem lrJpHl : Statement .lrJpHl := rfl
theorem lrJr (e : Byte) : Statement (.lrJr e) := rfl
theorem lrJrCc (cc : Cond) (e : Byte) : Statement (.lrJrCc cc e) := rfl
theorem lrCall (a16 : Word) : Statement (.lrCall a16) := rfl
theorem lrCallCc (cc : Cond) (a16 : Word) : Statement (.lrCallCc cc a16) := rfl
theorem lrRet : Statement .lrRet := rfl
theorem lrRetCc (cc : Cond) : Statement (.lrRetCc cc) := rfl
theorem lrReti : Statement .lrReti := rfl
theorem lrRst (n : Fin 8) : Statement (.lrRst n) := rfl
theorem lrDi : Statement .lrDi := rfl
theorem lrEi : Statement .lrEi := rfl
theorem lrHalt : Statement .lrHalt := rfl
theorem lrStop (b1 : Byte) : Statement (.lrStop b1) := rfl

end Sys2Proof.Laws.Length
end

