-- ==== Sys2Proof/Tests/Slice0.lean ====
section
/-! SUPPORT. The model's own tests: one ill-formed term per check, words written out from the encodings, single
steps with results from spec/95_test_vectors.md or calculated from the rules, and for each statement with
hypotheses a state and operands that meet them together. -/

open Sys2Proof Sys2Proof.Machine

namespace Sys2Proof.Tests

set_option maxRecDepth 8000

/-- A C8 memory with the cells written one after another. -/
def cellsC8 (cells : List Host.Cell) : Memory :=
  cells.foldl (fun m c => writeCell unlistedC8 m c.1 c.2) []

/-- An LR memory with the cells written one after another. -/
def cellsLr (cells : List Host.Cell) : Memory :=
  cells.foldl (fun m c => writeCell unlistedLr m c.1 c.2) []

/-- Registers `V`, zero but for the listed ones. -/
def vregs (l : List (Nat × Byte)) : Vector Byte 16 :=
  l.foldl (fun v p => v.setIfInBounds p.1 p.2) C8State.reset.v

/-- A fresh C8 machine with cells and registers. -/
def c8At (cells : List Host.Cell) (f : C8State → C8State) : State :=
  let s := State.resetOf { system := .c8, readOnly := [] }
  { s with c8 := { f s.c8 with mem := cellsC8 cells } }

/-- A fresh LR machine with cells and registers. -/
def lrAt (cells : List Host.Cell) (f : LrState → LrState) : State :=
  { State.reset with lr := { f LrState.reset with mem := cellsLr cells } }

/-- Does the check hold of the state after one step? -/
def after (s : State) (check : State → Bool) : Bool :=
  match step s with
  | .next t => check t
  | .fault _ | .refused _ => false

/-! ## Well-formedness: an ill-formed term for each check -/

theorem test_wf_refuses_sys_words : (Instr.c8Sys 0x0E0#12).wf = false ∧ (Instr.c8Sys 0x0EE#12).wf = false ∧
    (Instr.c8Sys 0x0EF#12).wf = true := by decide

theorem test_wf_refuses_pop_af_as_pair : (Instr.lrPop .af).wf = false ∧ (Instr.lrPop .hl).wf = true := by decide

theorem test_wf_refuses_prefix_alone : (Instr.lrPrefixCb 0x00#8).wf = false := by decide

/-! ## Decoding: words written out from the encodings of R103, R110 and R112 -/

/-- Do the two bytes read as `i`, and are they its encoding? -/
def c8Reads (b0 b1 : Byte) (i : Instr) : Bool := decode .c8 [b0, b1] = .ok (i, []) ∧ encode i = [b0, b1]

/-- Do the bytes read as `i`, with no byte left, and are they its encoding? -/
def lrReads (bytes : List Byte) (i : Instr) : Bool := decode .lr bytes = .ok (i, []) ∧ encode i = bytes

theorem test_decode_c8_control :
    c8Reads 0x00#8 0xEE#8 .c8Ret ∧ c8Reads 0x01#8 0x23#8 (.c8Sys 0x123#12) ∧
    c8Reads 0x1A#8 0xBC#8 (.c8Jp 0xABC#12) ∧ c8Reads 0x23#8 0x45#8 (.c8Call 0x345#12) ∧
    c8Reads 0x33#8 0x42#8 (.c8SeImm 3 0x42#8) ∧ c8Reads 0x4C#8 0xF0#8 (.c8SneImm 12 0xF0#8) ∧
    c8Reads 0x51#8 0x20#8 (.c8SeReg 1 2) ∧ c8Reads 0x9A#8 0xB0#8 (.c8SneReg 10 11) ∧
    c8Reads 0xBF#8 0xFE#8 (.c8JpV0 0xFFE#12) ∧ c8Reads 0xE4#8 0x9E#8 (.c8Skp 4) ∧
    c8Reads 0xE4#8 0xA1#8 (.c8Sknp 4) := by decide

theorem test_decode_c8_registers :
    c8Reads 0x65#8 0xAB#8 (.c8LdImm 5 0xAB#8) ∧ c8Reads 0x75#8 0x01#8 (.c8AddImm 5 0x01#8) ∧
    c8Reads 0x81#8 0x20#8 (.c8LdReg 1 2) ∧ c8Reads 0x81#8 0x21#8 (.c8Or 1 2) ∧
    c8Reads 0x81#8 0x22#8 (.c8And 1 2) ∧ c8Reads 0x81#8 0x23#8 (.c8Xor 1 2) ∧
    c8Reads 0x81#8 0x24#8 (.c8AddReg 1 2) ∧ c8Reads 0x8A#8 0xB5#8 (.c8Sub 10 11) ∧
    c8Reads 0x81#8 0x26#8 (.c8Shr 1 2) ∧ c8Reads 0x8A#8 0xB7#8 (.c8Subn 10 11) ∧
    c8Reads 0x81#8 0x2E#8 (.c8Shl 1 2) ∧ c8Reads 0xA3#8 0x45#8 (.c8LdI 0x345#12) ∧
    c8Reads 0xC7#8 0x0F#8 (.c8Rnd 7 0x0F#8) ∧ c8Reads 0xF6#8 0x1E#8 (.c8AddI 6) := by decide

theorem test_decode_c8_display_and_memory :
    c8Reads 0x00#8 0xE0#8 .c8Cls ∧ c8Reads 0xD1#8 0x2F#8 (.c8Drw 1 2 15) ∧
    c8Reads 0xF8#8 0x07#8 (.c8LdVxDt 8) ∧ c8Reads 0xF7#8 0x0A#8 (.c8LdVxK 7) ∧
    c8Reads 0xF1#8 0x15#8 (.c8LdDtVx 1) ∧ c8Reads 0xF1#8 0x18#8 (.c8LdStVx 1) ∧
    c8Reads 0xFE#8 0x29#8 (.c8LdF 14) ∧ c8Reads 0xF3#8 0x33#8 (.c8LdB 3) ∧
    c8Reads 0xF2#8 0x55#8 (.c8StoreRegs 2) ∧ c8Reads 0xF2#8 0x65#8 (.c8LoadRegs 2) := by decide

theorem test_decode_lr_loads8 :
    lrReads [0b01_111_010#8] (.lrLdRR .a .d) ∧ lrReads [0b01_011_110#8] (.lrLdRM .e) ∧
    lrReads [0b01_110_101#8] (.lrLdMR .l) ∧ lrReads [0b00_100_110#8, 0x7E#8] (.lrLdRN .h 0x7E#8) ∧
    lrReads [0b00_110_110#8, 0x99#8] (.lrLdMN 0x99#8) ∧ lrReads [0b00_00_1010#8] .lrLdABc ∧
    lrReads [0b00_01_1010#8] .lrLdADe ∧ lrReads [0b00_00_0010#8] .lrLdBcA ∧ lrReads [0b00_01_0010#8] .lrLdDeA ∧
    lrReads [0xFA#8, 0x23#8, 0xC1#8] (.lrLdAA16 0xC123#16) ∧
    lrReads [0xEA#8, 0x23#8, 0xC1#8] (.lrLdA16A 0xC123#16) ∧ lrReads [0xF0#8, 0x0F#8] (.lrLdhAA8 0x0F#8) ∧
    lrReads [0xE0#8, 0xFF#8] (.lrLdhA8A 0xFF#8) ∧ lrReads [0xF2#8] .lrLdAC ∧ lrReads [0xE2#8] .lrLdCA ∧
    lrReads [0x22#8] .lrLdHliA ∧ lrReads [0x2A#8] .lrLdAHli ∧ lrReads [0x32#8] .lrLdHldA ∧
    lrReads [0x3A#8] .lrLdAHld := by decide

theorem test_decode_lr_loads16 :
    lrReads [0b00_11_0001#8, 0x34#8, 0x12#8] (.lrLdPairN .sp 0x1234#16) ∧
    lrReads [0x08#8, 0x00#8, 0xC0#8] (.lrLdA16Sp 0xC000#16) ∧ lrReads [0xF9#8] .lrLdSpHl ∧
    lrReads [0xF8#8, 0xFE#8] (.lrLdHlSp 0xFE#8) ∧ lrReads [0b11_01_0101#8] (.lrPush .de) ∧
    lrReads [0b11_11_0101#8] (.lrPush .af) ∧ lrReads [0b11_10_0001#8] (.lrPop .hl) ∧
    lrReads [0b11_11_0001#8] .lrPopAf := by decide

theorem test_decode_lr_alu8 :
    lrReads [0b10_000_000#8] (.lrAddR .b) ∧ lrReads [0b10_000_110#8] .lrAddM ∧
    lrReads [0b11_000_110#8, 0x01#8] (.lrAddN 0x01#8) ∧ lrReads [0b10_001_001#8] (.lrAdcR .c) ∧
    lrReads [0b10_001_110#8] .lrAdcM ∧ lrReads [0b11_001_110#8, 0x02#8] (.lrAdcN 0x02#8) ∧
    lrReads [0b10_010_010#8] (.lrSubR .d) ∧ lrReads [0b10_010_110#8] .lrSubM ∧
    lrReads [0b11_010_110#8, 0x03#8] (.lrSubN 0x03#8) ∧ lrReads [0b10_011_011#8] (.lrSbcR .e) ∧
    lrReads [0b10_011_110#8] .lrSbcM ∧ lrReads [0b11_011_110#8, 0x04#8] (.lrSbcN 0x04#8) ∧
    lrReads [0b10_100_100#8] (.lrAndR .h) ∧ lrReads [0b10_100_110#8] .lrAndM ∧
    lrReads [0b11_100_110#8, 0x05#8] (.lrAndN 0x05#8) ∧ lrReads [0b10_101_101#8] (.lrXorR .l) ∧
    lrReads [0b10_101_110#8] .lrXorM ∧ lrReads [0b11_101_110#8, 0x06#8] (.lrXorN 0x06#8) ∧
    lrReads [0b10_110_111#8] (.lrOrR .a) ∧ lrReads [0b10_110_110#8] .lrOrM ∧
    lrReads [0b11_110_110#8, 0x07#8] (.lrOrN 0x07#8) ∧ lrReads [0b10_111_000#8] (.lrCpR .b) ∧
    lrReads [0b10_111_110#8] .lrCpM ∧ lrReads [0b11_111_110#8, 0x08#8] (.lrCpN 0x08#8) := by decide

theorem test_decode_lr_counts_and_misc :
    lrReads [0b00_001_100#8] (.lrIncR .c) ∧ lrReads [0b00_110_100#8] .lrIncM ∧
    lrReads [0b00_010_101#8] (.lrDecR .d) ∧ lrReads [0b00_110_101#8] .lrDecM ∧ lrReads [0b00_100_111#8] .lrDaa ∧
    lrReads [0b00_101_111#8] .lrCpl ∧ lrReads [0b00_110_111#8] .lrScf ∧ lrReads [0b00_111_111#8] .lrCcf ∧
    lrReads [0b00_10_1001#8] (.lrAddHl .hl) ∧ lrReads [0b00_01_0011#8] (.lrIncPair .de) ∧
    lrReads [0b00_00_1011#8] (.lrDecPair .bc) ∧ lrReads [0xE8#8, 0x80#8] (.lrAddSp 0x80#8) ∧
    lrReads [0b00_000_111#8] .lrRlca ∧ lrReads [0b00_001_111#8] .lrRrca ∧ lrReads [0b00_010_111#8] .lrRla ∧
    lrReads [0b00_011_111#8] .lrRra := by decide

theorem test_decode_lr_prefixed :
    lrReads [0xCB#8, 0b00_000_000#8] (.lrRlcR .b) ∧ lrReads [0xCB#8, 0b00_000_110#8] .lrRlcM ∧
    lrReads [0xCB#8, 0b00_001_001#8] (.lrRrcR .c) ∧ lrReads [0xCB#8, 0b00_001_110#8] .lrRrcM ∧
    lrReads [0xCB#8, 0b00_010_010#8] (.lrRlR .d) ∧ lrReads [0xCB#8, 0b00_010_110#8] .lrRlM ∧
    lrReads [0xCB#8, 0b00_011_011#8] (.lrRrR .e) ∧ lrReads [0xCB#8, 0b00_011_110#8] .lrRrM ∧
    lrReads [0xCB#8, 0b00_100_100#8] (.lrSlaR .h) ∧ lrReads [0xCB#8, 0b00_100_110#8] .lrSlaM ∧
    lrReads [0xCB#8, 0b00_101_101#8] (.lrSraR .l) ∧ lrReads [0xCB#8, 0b00_101_110#8] .lrSraM ∧
    lrReads [0xCB#8, 0b00_110_111#8] (.lrSwapR .a) ∧ lrReads [0xCB#8, 0b00_110_110#8] .lrSwapM ∧
    lrReads [0xCB#8, 0b00_111_000#8] (.lrSrlR .b) ∧ lrReads [0xCB#8, 0b00_111_110#8] .lrSrlM ∧
    lrReads [0xCB#8, 0b01_101_101#8] (.lrBitR 5 .l) ∧ lrReads [0xCB#8, 0b01_011_110#8] (.lrBitM 3) ∧
    lrReads [0xCB#8, 0b10_111_010#8] (.lrResR 7 .d) ∧ lrReads [0xCB#8, 0b10_000_110#8] (.lrResM 0) ∧
    lrReads [0xCB#8, 0b11_110_111#8] (.lrSetR 6 .a) ∧ lrReads [0xCB#8, 0b11_100_110#8] (.lrSetM 4) := by decide

/-- The prefix row is the head of every word of the prefixed map, and its two bytes are the instruction the
second one selects (R112, log 14). -/
theorem test_encode_lr_prefix_row : encode (.lrPrefixCb 0x6D#8) = [0xCB#8, 0x6D#8] := by decide

theorem test_decode_lr_control :
    lrReads [0x00#8] .lrNop ∧ lrReads [0xC3#8, 0x50#8, 0x01#8] (.lrJp 0x0150#16) ∧
    lrReads [0b110_10_010#8, 0x50#8, 0x01#8] (.lrJpCc .nc 0x0150#16) ∧ lrReads [0xE9#8] .lrJpHl ∧
    lrReads [0x18#8, 0xFE#8] (.lrJr 0xFE#8) ∧ lrReads [0b001_01_000#8, 0x05#8] (.lrJrCc .z 0x05#8) ∧
    lrReads [0xCD#8, 0x00#8, 0x02#8] (.lrCall 0x0200#16) ∧
    lrReads [0b110_11_100#8, 0x01#8, 0x80#8] (.lrCallCc .c 0x8001#16) ∧ lrReads [0xC9#8] .lrRet ∧
    lrReads [0b110_00_000#8] (.lrRetCc .nz) ∧ lrReads [0xD9#8] .lrReti ∧ lrReads [0b11_101_111#8] (.lrRst 5) ∧
    lrReads [0xF3#8] .lrDi ∧ lrReads [0xFB#8] .lrEi ∧ lrReads [0b01_110_110#8] .lrHalt ∧
    lrReads [0x10#8, 0x55#8] (.lrStop 0x55#8) := by decide

/-- The words of the opcode table, as the host numbers their bits: a C8 word, a one-byte and a three-byte LR
instruction (log 15), and that the very next step runs them. -/
theorem test_table_words :
    decodeTableWord 16 0x8AB7 = some (.c8Subn 10 11) ∧ decodeTableWord 8 0x7A = some (.lrLdRR .a .d) ∧
    decodeTableWord 24 0x0150C3 = some (.lrJp 0x0150#16) ∧ decodeTableWord 16 0x5121 = none ∧
    after (State.reset.withFetchWord 16 0x1ABC) (fun t => t.c8.pc = 0x0ABC#16) ∧
    after (State.reset.withFetchWord 24 0x0150C3) (fun t => t.lr.pc = 0x0150#16) := by decide

/-! ## Single steps: rows of section 2 of spec/95_test_vectors.md -/

theorem test_c8_jp_0xabc : after (c8At [(0x200, 0x1A#8), (0x201, 0xBC#8)] id) fun t =>
    t.response = .cycles 1 ∧ t.c8.pc = 0x0ABC#16 := by
  decide

theorem test_c8_call_0x300 :
    after (c8At [(0x200, 0x23#8), (0x201, 0x00#8)] fun l => { l with sp := 15 }) fun t =>
      t.response = .cycles 1 ∧ t.c8.pc = 0x0300#16 ∧ t.c8.sp = 16 ∧ t.c8.stack[15] = 0x0202#16 := by
  decide

theorem test_c8_call_0x300_2 :
    after (c8At [(0x200, 0x23#8), (0x201, 0x00#8)] fun l => { l with sp := 16 }) fun t =>
      t.response = .err (.invalidStackAccess 16) ∧ t.c8.pc = 0x0200#16 ∧ t.c8.sp = 16 := by
  decide

theorem test_c8_ret :
    after (c8At [(0x200, 0x00#8), (0x201, 0xEE#8)]
      fun l => { l with sp := 1, stack := C8State.reset.stack.set 0 0x0456#16 }) fun t =>
      t.response = .cycles 1 ∧ t.c8.pc = 0x0456#16 ∧ t.c8.sp = 0 := by
  decide

theorem test_c8_ret_2 : after (c8At [(0x200, 0x00#8), (0x201, 0xEE#8)] fun l => { l with sp := 0 }) fun t =>
    t.response = .err (.invalidStackAccess 0) ∧ t.c8.pc = 0x0200#16 ∧ t.c8.sp = 0 := by
  decide

theorem test_c8_jp_v0_0xfff :
    after (c8At [(0x200, 0xBF#8), (0x201, 0xFF#8)] fun l => { l with v := vregs [(0, 0xFF#8)] }) fun t =>
      t.response = .cycles 1 ∧ t.c8.pc = 0x10FE#16 := by
  decide

theorem test_c8_se_v3_0x42 :
    after (c8At [(0x200, 0x33#8), (0x201, 0x42#8)] fun l => { l with v := vregs [(3, 0x42#8)] }) fun t =>
      t.response = .cycles 1 ∧ t.c8.pc = 0x0204#16 := by
  decide

theorem test_c8_sne_v3_0x42 :
    after (c8At [(0x200, 0x43#8), (0x201, 0x42#8)] fun l => { l with v := vregs [(3, 0x42#8)] }) fun t =>
      t.response = .cycles 1 ∧ t.c8.pc = 0x0202#16 := by
  decide

theorem test_c8_se_v1_v2 :
    after (c8At [(0x200, 0x51#8), (0x201, 0x20#8)]
      fun l => { l with v := vregs [(1, 0x07#8), (2, 0x07#8)] }) fun t =>
      t.response = .cycles 1 ∧ t.c8.pc = 0x0204#16 := by
  decide

theorem test_c8_sne_v1_v2 :
    after (c8At [(0x200, 0x91#8), (0x201, 0x20#8)]
      fun l => { l with v := vregs [(1, 0x07#8), (2, 0x08#8)] }) fun t =>
      t.response = .cycles 1 ∧ t.c8.pc = 0x0204#16 := by
  decide

theorem test_c8_skp_v4 :
    after (c8At [(0x200, 0xE4#8), (0x201, 0x9E#8)]
      fun l => { l with v := vregs [(4, 0x0A#8)], keys := C8State.reset.keys.set 10 true }) fun t =>
      t.response = .cycles 1 ∧ t.c8.pc = 0x0204#16 := by
  decide

theorem test_c8_skp_v4_2 :
    after (c8At [(0x200, 0xE4#8), (0x201, 0x9E#8)] fun l => { l with v := vregs [(4, 0x10#8)] }) fun t =>
      t.response = .err (.invalidOpcodeUsage 0x10#8) ∧ t.c8.pc = 0x0200#16 := by
  decide

theorem test_c8_sknp_v4 :
    after (c8At [(0x200, 0xE4#8), (0x201, 0xA1#8)]
      fun l => { l with v := vregs [(4, 0x0A#8)], keys := C8State.reset.keys.set 10 true }) fun t =>
      t.response = .cycles 1 ∧ t.c8.pc = 0x0202#16 := by
  decide

theorem test_c8_sys_0x123 : after (c8At [(0x200, 0x01#8), (0x201, 0x23#8)] id) fun t =>
    t.response = .err (.unrecognizedOpcode 0x0200#16 [0x01#8, 0x23#8]) ∧ t.c8.pc = 0x0200#16 := by
  decide

theorem test_c8_ld_v5_0xab : after (c8At [(0x200, 0x65#8), (0x201, 0xAB#8)] id) fun t =>
    t.response = .cycles 1 ∧ t.c8.pc = 0x0202#16 ∧ t.vx 5 = 0xAB#8 := by
  decide

theorem test_c8_add_v5_0x01 :
    after (c8At [(0x200, 0x75#8), (0x201, 0x01#8)]
      fun l => { l with v := vregs [(5, 0xFF#8), (15, 0x07#8)] }) fun t =>
      t.response = .cycles 1 ∧ t.vx 5 = 0x00#8 ∧ t.vx 15 = 0x07#8 ∧ t.c8.pc = 0x0202#16 := by
  decide

theorem test_c8_ld_v1_v2 :
    after (c8At [(0x200, 0x81#8), (0x201, 0x20#8)] fun l => { l with v := vregs [(2, 0x33#8)] }) fun t =>
      t.response = .cycles 1 ∧ t.vx 1 = 0x33#8 ∧ t.c8.pc = 0x0202#16 := by
  decide

theorem test_c8_or_v1_v2 :
    after (c8At [(0x200, 0x81#8), (0x201, 0x21#8)]
      fun l => { l with v := vregs [(1, 0xF0#8), (2, 0x0F#8), (15, 0x05#8)] }) fun t =>
      t.response = .cycles 1 ∧ t.vx 1 = 0xFF#8 ∧ t.vx 15 = 0x05#8 ∧ t.c8.pc = 0x0202#16 := by
  decide

theorem test_c8_and_v1_v2 :
    after (c8At [(0x200, 0x81#8), (0x201, 0x22#8)]
      fun l => { l with v := vregs [(1, 0xFC#8), (2, 0x3F#8)] }) fun t =>
      t.response = .cycles 1 ∧ t.vx 1 = 0x3C#8 ∧ t.vx 15 = 0x00#8 ∧ t.c8.pc = 0x0202#16 := by
  decide

theorem test_c8_xor_v1_v1 :
    after (c8At [(0x200, 0x81#8), (0x201, 0x13#8)] fun l => { l with v := vregs [(1, 0xAA#8)] }) fun t =>
      t.response = .cycles 1 ∧ t.vx 1 = 0x00#8 ∧ t.vx 15 = 0x00#8 ∧ t.c8.pc = 0x0202#16 := by
  decide

theorem test_c8_add_vf_v1 :
    after (c8At [(0x200, 0x8F#8), (0x201, 0x14#8)]
      fun l => { l with v := vregs [(15, 0xFF#8), (1, 0x02#8)] }) fun t =>
      t.response = .cycles 1 ∧ t.vx 15 = 0x01#8 ∧ t.c8.pc = 0x0202#16 := by
  decide

theorem test_c8_sub_v1_v2 :
    after (c8At [(0x200, 0x81#8), (0x201, 0x25#8)]
      fun l => { l with v := vregs [(1, 0x05#8), (2, 0x06#8)] }) fun t =>
      t.response = .cycles 1 ∧ t.vx 1 = 0xFF#8 ∧ t.vx 15 = 0x00#8 ∧ t.c8.pc = 0x0202#16 := by
  decide

theorem test_c8_subn_v1_v2 :
    after (c8At [(0x200, 0x81#8), (0x201, 0x27#8)]
      fun l => { l with v := vregs [(1, 0x06#8), (2, 0x05#8)] }) fun t =>
      t.response = .cycles 1 ∧ t.vx 1 = 0xFF#8 ∧ t.vx 15 = 0x00#8 ∧ t.c8.pc = 0x0202#16 := by
  decide

theorem test_c8_shr_v1 :
    after (c8At [(0x200, 0x81#8), (0x201, 0x26#8)]
      fun l => { l with v := vregs [(1, 0x03#8), (2, 0xF0#8)] }) fun t =>
      t.response = .cycles 1 ∧ t.vx 1 = 0x01#8 ∧ t.vx 2 = 0xF0#8 ∧ t.vx 15 = 0x01#8 ∧ t.c8.pc = 0x0202#16 := by
  decide

theorem test_c8_shl_v1 :
    after (c8At [(0x200, 0x81#8), (0x201, 0x2E#8)]
      fun l => { l with v := vregs [(1, 0x81#8), (2, 0x01#8)] }) fun t =>
      t.response = .cycles 1 ∧ t.vx 1 = 0x02#8 ∧ t.vx 2 = 0x01#8 ∧ t.vx 15 = 0x01#8 ∧ t.c8.pc = 0x0202#16 := by
  decide

theorem test_c8_ld_i_0xfff : after (c8At [(0x200, 0xAF#8), (0x201, 0xFF#8)] id) fun t =>
    t.response = .cycles 1 ∧ t.c8.i = 0x0FFF#16 ∧ t.c8.pc = 0x0202#16 := by
  decide

theorem test_c8_add_i_v1 :
    after (c8At [(0x200, 0xF1#8), (0x201, 0x1E#8)]
      fun l => { l with i := 0x0FFF#16, v := vregs [(1, 0x01#8), (15, 0x00#8)] }) fun t =>
      t.response = .cycles 1 ∧ t.c8.i = 0x1000#16 ∧ t.vx 15 = 0x00#8 ∧ t.c8.pc = 0x0202#16 := by
  decide

theorem test_c8_ld_v1_dt :
    after (c8At [(0x200, 0xF1#8), (0x201, 0x07#8)] fun l => { l with dt := 0x2A#8 }) fun t =>
      t.response = .cycles 1 ∧ t.vx 1 = 0x2A#8 ∧ t.c8.pc = 0x0202#16 := by
  decide

theorem test_c8_ld_dt_v1 :
    after (c8At [(0x200, 0xF1#8), (0x201, 0x15#8)] fun l => { l with v := vregs [(1, 0x3C#8)] }) fun t =>
      t.response = .cycles 1 ∧ t.c8.dt = 0x3C#8 ∧ t.c8.pc = 0x0202#16 := by
  decide

theorem test_c8_ld_st_v1 :
    after (c8At [(0x200, 0xF1#8), (0x201, 0x18#8)] fun l => { l with v := vregs [(1, 0x02#8)] }) fun t =>
      t.response = .cycles 1 ∧ t.c8.st = 0x02#8 ∧ t.c8.pc = 0x0202#16 := by
  decide

theorem test_c8_ld_v7_k : after (c8At [(0x200, 0xF7#8), (0x201, 0x0A#8)] id) fun t =>
    t.response = .cycles 1 ∧ t.c8.pc = 0x0202#16 ∧ t.status = .halted ∧ t.c8.waitReg = 7 ∧
    t.vx 7 = 0x00#8 := by
  decide

theorem test_c8_ld_f_v1 :
    after (c8At [(0x200, 0xF1#8), (0x201, 0x29#8)] fun l => { l with v := vregs [(1, 0x0A#8)] }) fun t =>
      t.response = .cycles 1 ∧ t.c8.i = 0x0082#16 ∧ t.c8.pc = 0x0202#16 := by
  decide

theorem test_c8_ld_f_v1_2 :
    after (c8At [(0x200, 0xF1#8), (0x201, 0x29#8)] fun l => { l with v := vregs [(1, 0x10#8)] }) fun t =>
      t.response = .err (.invalidOpcodeUsage 0x10#8) ∧ t.c8.i = 0x0000#16 := by
  decide

theorem test_c8_ld_b_v1 :
    after (c8At [(0x200, 0xF1#8), (0x201, 0x33#8)]
      fun l => { l with i := 0x0300#16, v := vregs [(1, 0xFE#8)] }) fun t =>
      t.response = .cycles 1 ∧ t.c8Byte 0x300 = 0x02#8 ∧ t.c8Byte 0x301 = 0x05#8 ∧
      t.c8Byte 0x302 = 0x04#8 ∧ t.c8.i = 0x0300#16 ∧ t.c8.pc = 0x0202#16 := by
  decide

theorem test_c8_ld_b_v1_2 :
    after (c8At [(0x200, 0xF1#8), (0x201, 0x33#8)]
      fun l => { l with i := 0x0FFE#16, v := vregs [(1, 0x07#8)] }) fun t =>
      t.response = .err (.invalidMemoryAccess 4096) ∧ t.c8Byte 0xFFE = 0x00#8 ∧ t.c8Byte 0xFFF = 0x00#8 := by
  decide

theorem test_c8_ld_im_v2 :
    after (c8At [(0x200, 0xF2#8), (0x201, 0x55#8)]
      fun l => { l with i := 0x0300#16, v := vregs [(0, 0x01#8), (1, 0x02#8), (2, 0x03#8), (3, 0x04#8)] }) fun t =>
      t.response = .cycles 1 ∧ t.c8Byte 0x300 = 0x01#8 ∧ t.c8Byte 0x301 = 0x02#8 ∧
      t.c8Byte 0x302 = 0x03#8 ∧ t.c8Byte 0x303 = 0x00#8 ∧ t.c8.i = 0x0300#16 ∧ t.c8.pc = 0x0202#16 := by
  decide

theorem test_c8_ld_v2_im :
    after (c8At [(0x200, 0xF2#8), (0x201, 0x65#8), (0x300, 0x09#8), (0x301, 0x08#8), (0x302, 0x07#8), (0x303, 0x06#8)]
      fun l => { l with i := 0x0300#16 }) fun t =>
      t.response = .cycles 1 ∧ t.vx 0 = 0x09#8 ∧ t.vx 1 = 0x08#8 ∧ t.vx 2 = 0x07#8 ∧ t.vx 3 = 0x00#8 ∧
      t.c8.i = 0x0300#16 ∧ t.c8.pc = 0x0202#16 := by
  decide

theorem test_c8_ld_v0_im :
    after (c8At [(0x200, 0xF0#8), (0x201, 0x65#8)] fun l => { l with i := 0x1000#16 }) fun t =>
      t.response = .err (.invalidMemoryAccess 4096) ∧ t.vx 0 = 0x00#8 := by
  decide

theorem test_c8_fetch : after (c8At [(0xFFF, 0x12#8)] fun l => { l with pc := 0x0FFF#16 }) fun t =>
    t.response = .err (.invalidMemoryAccess 4096) ∧ t.c8.pc = 0x0FFF#16 := by
  decide

theorem test_lr_ld_b_c : after (lrAt [(0x100, 0x41#8)] fun l => { l with c := 0x13#8 }) fun t =>
    t.response = .cycles 4 ∧ t.lr.b = 0x13#8 ∧ t.lr.pc = 0x0101#16 := by
  decide

theorem test_lr_ld_a_hlm :
    after (lrAt [(0x100, 0x7E#8), (0xC000, 0x5A#8)] fun l => { l with h := 0xC0#8, l := 0x00#8 }) fun t =>
      t.response = .cycles 8 ∧ t.lr.a = 0x5A#8 ∧ t.lr.pc = 0x0101#16 := by
  decide

theorem test_lr_ld_hlm_e :
    after (lrAt [(0x100, 0x73#8)] fun l => { l with h := 0xC0#8, l := 0x00#8, e := 0xD8#8 }) fun t =>
      t.response = .cycles 8 ∧ t.lrRead 0xC000#16 = 0xD8#8 ∧ t.lr.pc = 0x0101#16 := by
  decide

theorem test_lr_ld_c_0x77 : after (lrAt [(0x100, 0x0E#8), (0x101, 0x77#8)] id) fun t =>
    t.response = .cycles 8 ∧ t.lr.c = 0x77#8 ∧ t.lr.pc = 0x0102#16 := by
  decide

theorem test_lr_ld_hlm_0x99 :
    after (lrAt [(0x100, 0x36#8), (0x101, 0x99#8)] fun l => { l with h := 0xFF#8, l := 0xFF#8 }) fun t =>
      t.response = .cycles 12 ∧ t.lrRead 0xFFFF#16 = 0x99#8 ∧ t.lr.pc = 0x0102#16 := by
  decide

theorem test_lr_ld_a_bcm : after (lrAt [(0x100, 0x0A#8)] fun l => { l with b := 0x01#8, c := 0x00#8 }) fun t =>
    t.response = .cycles 8 ∧ t.lr.a = 0x0A#8 ∧ t.lr.pc = 0x0101#16 := by
  decide

theorem test_lr_ld_a_dem :
    after (lrAt [(0x100, 0x1A#8), (0xC001, 0x42#8)] fun l => { l with d := 0xC0#8, e := 0x01#8 }) fun t =>
      t.response = .cycles 8 ∧ t.lr.a = 0x42#8 ∧ t.lr.pc = 0x0101#16 := by
  decide

theorem test_lr_ld_bcm_a :
    after (lrAt [(0x100, 0x02#8)] fun l => { l with b := 0xC0#8, c := 0x02#8, a := 0x01#8 }) fun t =>
      t.response = .cycles 8 ∧ t.lrRead 0xC002#16 = 0x01#8 ∧ t.lr.pc = 0x0101#16 := by
  decide

theorem test_lr_ld_dem_a :
    after (lrAt [(0x100, 0x12#8)] fun l => { l with d := 0xC0#8, e := 0x03#8, a := 0x01#8 }) fun t =>
      t.response = .cycles 8 ∧ t.lrRead 0xC003#16 = 0x01#8 ∧ t.lr.pc = 0x0101#16 := by
  decide

theorem test_lr_ld_a_m0xc123 :
    after (lrAt [(0x100, 0xFA#8), (0x101, 0x23#8), (0x102, 0xC1#8), (0xC123, 0x66#8)] id) fun t =>
      t.response = .cycles 16 ∧ t.lr.a = 0x66#8 ∧ t.lr.pc = 0x0103#16 := by
  decide

theorem test_lr_ld_m0xc123_a :
    after (lrAt [(0x100, 0xEA#8), (0x101, 0x23#8), (0x102, 0xC1#8)] fun l => { l with a := 0x01#8 }) fun t =>
      t.response = .cycles 16 ∧ t.lrRead 0xC123#16 = 0x01#8 ∧ t.lr.pc = 0x0103#16 := by
  decide

theorem test_lr_ldh_a_m0x0f : after (lrAt [(0x100, 0xF0#8), (0x101, 0x0F#8), (0xFF0F, 0x15#8)] id) fun t =>
    t.response = .cycles 12 ∧ t.lr.a = 0x15#8 ∧ t.lr.pc = 0x0102#16 := by
  decide

theorem test_lr_ldh_m0xff_a :
    after (lrAt [(0x100, 0xE0#8), (0x101, 0xFF#8)] fun l => { l with a := 0x1F#8 }) fun t =>
      t.response = .cycles 12 ∧ t.lrRead 0xFFFF#16 = 0x1F#8 ∧ t.lr.pc = 0x0102#16 := by
  decide

theorem test_lr_ld_a_cm :
    after (lrAt [(0x100, 0xF2#8), (0xFF80, 0x77#8)] fun l => { l with c := 0x80#8 }) fun t =>
      t.response = .cycles 8 ∧ t.lr.a = 0x77#8 ∧ t.lr.pc = 0x0101#16 := by
  decide

theorem test_lr_ld_cm_a : after (lrAt [(0x100, 0xE2#8)] fun l => { l with c := 0x13#8, a := 0x01#8 }) fun t =>
    t.response = .cycles 8 ∧ t.lrRead 0xFF13#16 = 0x01#8 ∧ t.lr.pc = 0x0101#16 := by
  decide

theorem test_lr_ld_hli_a :
    after (lrAt [(0x100, 0x22#8)] fun l => { l with h := 0xFF#8, l := 0xFF#8, a := 0x01#8 }) fun t =>
      t.response = .cycles 8 ∧ t.lrRead 0xFFFF#16 = 0x01#8 ∧ t.hl = 0x0000#16 ∧ t.lr.pc = 0x0101#16 := by
  decide

theorem test_lr_ld_a_hli :
    after (lrAt [(0x100, 0x2A#8), (0xC0FF, 0x12#8)] fun l => { l with h := 0xC0#8, l := 0xFF#8 }) fun t =>
      t.response = .cycles 8 ∧ t.lr.a = 0x12#8 ∧ t.hl = 0xC100#16 ∧ t.lr.pc = 0x0101#16 := by
  decide

theorem test_lr_ld_hld_a :
    after (lrAt [(0x100, 0x32#8)] fun l => { l with h := 0x00#8, l := 0x00#8, a := 0x01#8 }) fun t =>
      t.response = .cycles 8 ∧ t.lrRead 0x0000#16 = 0x01#8 ∧ t.hl = 0xFFFF#16 ∧ t.lr.pc = 0x0101#16 := by
  decide

theorem test_lr_ld_a_hld :
    after (lrAt [(0x100, 0x3A#8), (0xC100, 0x34#8)] fun l => { l with h := 0xC1#8, l := 0x00#8 }) fun t =>
      t.response = .cycles 8 ∧ t.lr.a = 0x34#8 ∧ t.hl = 0xC0FF#16 ∧ t.lr.pc = 0x0101#16 := by
  decide

theorem test_lr_ld_bc_0x1234 : after (lrAt [(0x100, 0x01#8), (0x101, 0x34#8), (0x102, 0x12#8)] id) fun t =>
    t.response = .cycles 12 ∧ t.bc = 0x1234#16 ∧ t.lr.b = 0x12#8 ∧ t.lr.c = 0x34#8 ∧ t.lr.pc = 0x0103#16 := by
  decide

theorem test_lr_ld_m0xffff_sp :
    after (lrAt [(0x200, 0x08#8), (0x201, 0xFF#8), (0x202, 0xFF#8)]
      fun l => { l with sp := 0xABCD#16, pc := 0x0200#16 }) fun t =>
      t.response = .cycles 20 ∧ t.lrRead 0xFFFF#16 = 0xCD#8 ∧ t.lrRead 0x0000#16 = 0xAB#8 ∧
      t.lr.pc = 0x0203#16 := by
  decide

theorem test_lr_ld_sp_hl : after (lrAt [(0x100, 0xF9#8)] fun l => { l with h := 0x01#8, l := 0x4D#8 }) fun t =>
    t.response = .cycles 8 ∧ t.lr.sp = 0x014D#16 ∧ t.lr.pc = 0x0101#16 := by
  decide

theorem test_lr_ld_hl_sp0x02 :
    after (lrAt [(0x100, 0xF8#8), (0x101, 0x02#8)] fun l => { l with sp := 0xFFFE#16, f := 0x0B#8 }) fun t =>
      t.response = .cycles 12 ∧ t.hl = 0x0000#16 ∧ t.lr.f = 0x03#8 ∧ t.lr.sp = 0xFFFE#16 ∧
      t.lr.pc = 0x0102#16 := by
  decide

theorem test_lr_push_bc :
    after (lrAt [(0x100, 0xC5#8)] fun l => { l with b := 0x00#8, c := 0x13#8, sp := 0xFFFE#16 }) fun t =>
      t.response = .cycles 16 ∧ t.lr.sp = 0xFFFC#16 ∧ t.lrRead 0xFFFC#16 = 0x13#8 ∧
      t.lrRead 0xFFFD#16 = 0x00#8 ∧ t.lr.pc = 0x0101#16 := by
  decide

theorem test_lr_push_hl : after (lrAt [(0x100, 0xE5#8)] fun l => { l with sp := 0x0001#16 }) fun t =>
    t.response = .err (.invalidStackAccess 1) ∧ t.lr.sp = 0x0001#16 := by
  decide

theorem test_lr_pop_de :
    after (lrAt [(0x100, 0xD1#8), (0xC000, 0x34#8), (0xC001, 0x12#8)]
      fun l => { l with sp := 0xC000#16 }) fun t =>
      t.response = .cycles 12 ∧ t.de = 0x1234#16 ∧ t.lr.sp = 0xC002#16 ∧ t.lr.pc = 0x0101#16 := by
  decide

theorem test_lr_pop_af :
    after (lrAt [(0x100, 0xF1#8), (0xC000, 0xF5#8), (0xC001, 0x9A#8)]
      fun l => { l with sp := 0xC000#16 }) fun t =>
      t.response = .cycles 12 ∧ t.lr.a = 0x9A#8 ∧ t.lr.f = 0x05#8 ∧ t.lr.sp = 0xC002#16 ∧
      t.lr.pc = 0x0101#16 := by
  decide

theorem test_lr_add_a_b :
    after (lrAt [(0x100, 0x80#8)] fun l => { l with a := 0x3A#8, b := 0xC6#8, f := 0x00#8 }) fun t =>
      t.response = .cycles 4 ∧ t.lr.a = 0x00#8 ∧ t.lr.f = 0x0B#8 ∧ t.lr.pc = 0x0101#16 := by
  decide

theorem test_lr_add_a_hlm :
    after (lrAt [(0x100, 0x86#8), (0xC000, 0x22#8)]
      fun l => { l with a := 0x10#8, h := 0xC0#8, l := 0x00#8 }) fun t =>
      t.response = .cycles 8 ∧ t.lr.a = 0x32#8 ∧ t.lr.f = 0x00#8 ∧ t.lr.pc = 0x0101#16 := by
  decide

theorem test_lr_adc_a_0x0f :
    after (lrAt [(0x100, 0xCE#8), (0x101, 0x0F#8)] fun l => { l with a := 0xF0#8, f := 0x01#8 }) fun t =>
      t.response = .cycles 8 ∧ t.lr.a = 0x00#8 ∧ t.lr.f = 0x0B#8 ∧ t.lr.pc = 0x0102#16 := by
  decide

theorem test_lr_adc_a_c :
    after (lrAt [(0x100, 0x89#8)] fun l => { l with a := 0x0E#8, c := 0x01#8, f := 0x01#8 }) fun t =>
      t.response = .cycles 4 ∧ t.lr.a = 0x10#8 ∧ t.lr.f = 0x02#8 ∧ t.lr.pc = 0x0101#16 := by
  decide

theorem test_lr_sub_0x01 :
    after (lrAt [(0x100, 0xD6#8), (0x101, 0x01#8)] fun l => { l with a := 0x00#8 }) fun t =>
      t.response = .cycles 8 ∧ t.lr.a = 0xFF#8 ∧ t.lr.f = 0x07#8 ∧ t.lr.pc = 0x0102#16 := by
  decide

theorem test_lr_sbc_a_b :
    after (lrAt [(0x100, 0x98#8)] fun l => { l with a := 0x10#8, b := 0x0F#8, f := 0x01#8 }) fun t =>
      t.response = .cycles 4 ∧ t.lr.a = 0x00#8 ∧ t.lr.f = 0x0E#8 ∧ t.lr.pc = 0x0101#16 := by
  decide

theorem test_lr_sbc_a_0xff :
    after (lrAt [(0x100, 0xDE#8), (0x101, 0xFF#8)] fun l => { l with a := 0x00#8, f := 0x01#8 }) fun t =>
      t.response = .cycles 8 ∧ t.lr.a = 0x00#8 ∧ t.lr.f = 0x0F#8 ∧ t.lr.pc = 0x0102#16 := by
  decide

theorem test_lr_and_b :
    after (lrAt [(0x100, 0xA0#8)] fun l => { l with a := 0x5A#8, b := 0x3F#8, f := 0x05#8 }) fun t =>
      t.response = .cycles 4 ∧ t.lr.a = 0x1A#8 ∧ t.lr.f = 0x02#8 ∧ t.lr.pc = 0x0101#16 := by
  decide

theorem test_lr_and_0x00 : after (lrAt [(0x100, 0xE6#8)] fun l => { l with a := 0xFF#8 }) fun t =>
    t.response = .cycles 8 ∧ t.lr.a = 0x00#8 ∧ t.lr.f = 0x0A#8 ∧ t.lr.pc = 0x0102#16 := by
  decide

theorem test_lr_xor_a : after (lrAt [(0x100, 0xAF#8)] fun l => { l with a := 0x01#8, f := 0x0B#8 }) fun t =>
    t.response = .cycles 4 ∧ t.lr.a = 0x00#8 ∧ t.lr.f = 0x08#8 ∧ t.lr.pc = 0x0101#16 := by
  decide

theorem test_lr_xor_0x0f :
    after (lrAt [(0x100, 0xEE#8), (0x101, 0x0F#8)] fun l => { l with a := 0xFF#8 }) fun t =>
      t.response = .cycles 8 ∧ t.lr.a = 0xF0#8 ∧ t.lr.f = 0x00#8 ∧ t.lr.pc = 0x0102#16 := by
  decide

theorem test_lr_or_c :
    after (lrAt [(0x100, 0xB1#8)] fun l => { l with a := 0x00#8, c := 0x00#8, f := 0x07#8 }) fun t =>
      t.response = .cycles 4 ∧ t.lr.a = 0x00#8 ∧ t.lr.f = 0x08#8 ∧ t.lr.pc = 0x0101#16 := by
  decide

theorem test_lr_or_0x80 :
    after (lrAt [(0x100, 0xF6#8), (0x101, 0x80#8)] fun l => { l with a := 0x01#8 }) fun t =>
      t.response = .cycles 8 ∧ t.lr.a = 0x81#8 ∧ t.lr.f = 0x00#8 ∧ t.lr.pc = 0x0102#16 := by
  decide

theorem test_lr_cp_b :
    after (lrAt [(0x100, 0xB8#8)] fun l => { l with a := 0x3C#8, b := 0x2F#8, f := 0x00#8 }) fun t =>
      t.response = .cycles 4 ∧ t.lr.a = 0x3C#8 ∧ t.lr.f = 0x06#8 ∧ t.lr.pc = 0x0101#16 := by
  decide

theorem test_lr_cp_0x40 :
    after (lrAt [(0x100, 0xFE#8), (0x101, 0x40#8)] fun l => { l with a := 0x3C#8 }) fun t =>
      t.response = .cycles 8 ∧ t.lr.a = 0x3C#8 ∧ t.lr.f = 0x05#8 ∧ t.lr.pc = 0x0102#16 := by
  decide

theorem test_lr_inc_b : after (lrAt [(0x100, 0x04#8)] fun l => { l with b := 0xFF#8, f := 0x01#8 }) fun t =>
    t.response = .cycles 4 ∧ t.lr.b = 0x00#8 ∧ t.lr.f = 0x0B#8 ∧ t.lr.pc = 0x0101#16 := by
  decide

theorem test_lr_inc_hlm :
    after (lrAt [(0x100, 0x34#8), (0xC000, 0x7F#8)]
      fun l => { l with h := 0xC0#8, l := 0x00#8, f := 0x00#8 }) fun t =>
      t.response = .cycles 12 ∧ t.lrRead 0xC000#16 = 0x80#8 ∧ t.lr.f = 0x02#8 ∧ t.lr.pc = 0x0101#16 := by
  decide

theorem test_lr_dec_b : after (lrAt [(0x100, 0x05#8)] fun l => { l with b := 0x00#8, f := 0x01#8 }) fun t =>
    t.response = .cycles 4 ∧ t.lr.b = 0xFF#8 ∧ t.lr.f = 0x07#8 ∧ t.lr.pc = 0x0101#16 := by
  decide

theorem test_lr_daa : after (lrAt [(0x100, 0x27#8)] fun l => { l with a := 0x9A#8, f := 0x00#8 }) fun t =>
    t.response = .cycles 4 ∧ t.lr.a = 0x00#8 ∧ t.lr.f = 0x09#8 ∧ t.lr.pc = 0x0101#16 := by
  decide

theorem test_lr_cpl : after (lrAt [(0x100, 0x2F#8)] fun l => { l with a := 0x35#8, f := 0x09#8 }) fun t =>
    t.response = .cycles 4 ∧ t.lr.a = 0xCA#8 ∧ t.lr.f = 0x0F#8 ∧ t.lr.pc = 0x0101#16 := by
  decide

theorem test_lr_scf : after (lrAt [(0x100, 0x37#8)] fun l => { l with f := 0x0E#8 }) fun t =>
    t.response = .cycles 4 ∧ t.lr.f = 0x09#8 ∧ t.lr.pc = 0x0101#16 := by
  decide

theorem test_lr_ccf : after (lrAt [(0x100, 0x3F#8)] fun l => { l with f := 0x0F#8 }) fun t =>
    t.response = .cycles 4 ∧ t.lr.f = 0x08#8 ∧ t.lr.pc = 0x0101#16 := by
  decide

theorem test_lr_add_hl_hl :
    after (lrAt [(0x100, 0x29#8)] fun l => { l with h := 0x80#8, l := 0x80#8, f := 0x00#8 }) fun t =>
      t.response = .cycles 8 ∧ t.hl = 0x0100#16 ∧ t.lr.f = 0x03#8 ∧ t.lr.pc = 0x0101#16 := by
  decide

theorem test_lr_inc_bc :
    after (lrAt [(0x100, 0x03#8)] fun l => { l with b := 0xFF#8, c := 0xFF#8, f := 0x0B#8 }) fun t =>
      t.response = .cycles 8 ∧ t.bc = 0x0000#16 ∧ t.lr.f = 0x0B#8 ∧ t.lr.pc = 0x0101#16 := by
  decide

theorem test_lr_dec_de : after (lrAt [(0x100, 0x1B#8)] fun l => { l with d := 0x00#8, e := 0x00#8 }) fun t =>
    t.response = .cycles 8 ∧ t.de = 0xFFFF#16 ∧ t.lr.f = 0x0B#8 ∧ t.lr.pc = 0x0101#16 := by
  decide

theorem test_lr_add_sp_minus_2 :
    after (lrAt [(0x100, 0xE8#8), (0x101, 0xFE#8)] fun l => { l with sp := 0xFFFE#16 }) fun t =>
      t.response = .cycles 16 ∧ t.lr.sp = 0xFFFC#16 ∧ t.lr.f = 0x03#8 ∧ t.lr.pc = 0x0102#16 := by
  decide

theorem test_lr_rlca : after (lrAt [(0x100, 0x07#8)] fun l => { l with a := 0x85#8, f := 0x08#8 }) fun t =>
    t.response = .cycles 4 ∧ t.lr.a = 0x0B#8 ∧ t.lr.f = 0x01#8 ∧ t.lr.pc = 0x0101#16 := by
  decide

theorem test_lr_rrca : after (lrAt [(0x100, 0x0F#8)] fun l => { l with a := 0x01#8, f := 0x00#8 }) fun t =>
    t.response = .cycles 4 ∧ t.lr.a = 0x80#8 ∧ t.lr.f = 0x01#8 ∧ t.lr.pc = 0x0101#16 := by
  decide

theorem test_lr_rla : after (lrAt [(0x100, 0x17#8)] fun l => { l with a := 0x80#8, f := 0x00#8 }) fun t =>
    t.response = .cycles 4 ∧ t.lr.a = 0x00#8 ∧ t.lr.f = 0x01#8 ∧ t.lr.pc = 0x0101#16 := by
  decide

theorem test_lr_rra : after (lrAt [(0x100, 0x1F#8)] fun l => { l with a := 0x01#8, f := 0x01#8 }) fun t =>
    t.response = .cycles 4 ∧ t.lr.a = 0x80#8 ∧ t.lr.f = 0x01#8 ∧ t.lr.pc = 0x0101#16 := by
  decide

theorem test_lr_rlc_b : after (lrAt [(0x100, 0xCB#8)] fun l => { l with b := 0x80#8, f := 0x00#8 }) fun t =>
    t.response = .cycles 8 ∧ t.lr.b = 0x01#8 ∧ t.lr.f = 0x01#8 ∧ t.lr.pc = 0x0102#16 := by
  decide

theorem test_lr_rrc_c : after (lrAt [(0x100, 0xCB#8), (0x101, 0x09#8)] fun l => { l with c := 0x01#8 }) fun t =>
    t.response = .cycles 8 ∧ t.lr.c = 0x80#8 ∧ t.lr.f = 0x01#8 ∧ t.lr.pc = 0x0102#16 := by
  decide

theorem test_lr_rl_d :
    after (lrAt [(0x100, 0xCB#8), (0x101, 0x12#8)] fun l => { l with d := 0x80#8, f := 0x00#8 }) fun t =>
      t.response = .cycles 8 ∧ t.lr.d = 0x00#8 ∧ t.lr.f = 0x09#8 ∧ t.lr.pc = 0x0102#16 := by
  decide

theorem test_lr_rr_e :
    after (lrAt [(0x100, 0xCB#8), (0x101, 0x1B#8)] fun l => { l with e := 0x01#8, f := 0x00#8 }) fun t =>
      t.response = .cycles 8 ∧ t.lr.e = 0x00#8 ∧ t.lr.f = 0x09#8 ∧ t.lr.pc = 0x0102#16 := by
  decide

theorem test_lr_sla_h : after (lrAt [(0x100, 0xCB#8), (0x101, 0x24#8)] fun l => { l with h := 0xC0#8 }) fun t =>
    t.response = .cycles 8 ∧ t.lr.h = 0x80#8 ∧ t.lr.f = 0x01#8 ∧ t.lr.pc = 0x0102#16 := by
  decide

theorem test_lr_sra_l : after (lrAt [(0x100, 0xCB#8), (0x101, 0x2D#8)] fun l => { l with l := 0x81#8 }) fun t =>
    t.response = .cycles 8 ∧ t.lr.l = 0xC0#8 ∧ t.lr.f = 0x01#8 ∧ t.lr.pc = 0x0102#16 := by
  decide

theorem test_lr_swap_a :
    after (lrAt [(0x100, 0xCB#8), (0x101, 0x37#8)] fun l => { l with a := 0xF1#8, f := 0x0F#8 }) fun t =>
      t.response = .cycles 8 ∧ t.lr.a = 0x1F#8 ∧ t.lr.f = 0x00#8 ∧ t.lr.pc = 0x0102#16 := by
  decide

theorem test_lr_srl_a : after (lrAt [(0x100, 0xCB#8), (0x101, 0x3F#8)] fun l => { l with a := 0x01#8 }) fun t =>
    t.response = .cycles 8 ∧ t.lr.a = 0x00#8 ∧ t.lr.f = 0x09#8 ∧ t.lr.pc = 0x0102#16 := by
  decide

theorem test_lr_srl_hlm :
    after (lrAt [(0x100, 0xCB#8), (0x101, 0x3E#8), (0xC000, 0xFE#8)]
      fun l => { l with h := 0xC0#8, l := 0x00#8 }) fun t =>
      t.response = .cycles 16 ∧ t.lrRead 0xC000#16 = 0x7F#8 ∧ t.lr.f = 0x00#8 ∧ t.lr.pc = 0x0102#16 := by
  decide

theorem test_lr_bit_7_h :
    after (lrAt [(0x100, 0xCB#8), (0x101, 0x7C#8)] fun l => { l with h := 0x01#8, f := 0x01#8 }) fun t =>
      t.response = .cycles 8 ∧ t.lr.h = 0x01#8 ∧ t.lr.f = 0x0B#8 ∧ t.lr.pc = 0x0102#16 := by
  decide

theorem test_lr_bit_3_hlm :
    after (lrAt [(0x100, 0xCB#8), (0x101, 0x5E#8), (0xC000, 0x08#8)]
      fun l => { l with h := 0xC0#8, l := 0x00#8, f := 0x00#8 }) fun t =>
      t.response = .cycles 12 ∧ t.lr.f = 0x02#8 ∧ t.lrRead 0xC000#16 = 0x08#8 ∧ t.lr.pc = 0x0102#16 := by
  decide

theorem test_lr_res_0_a :
    after (lrAt [(0x100, 0xCB#8), (0x101, 0x87#8)] fun l => { l with a := 0x01#8, f := 0x0B#8 }) fun t =>
      t.response = .cycles 8 ∧ t.lr.a = 0x00#8 ∧ t.lr.f = 0x0B#8 ∧ t.lr.pc = 0x0102#16 := by
  decide

theorem test_lr_res_7_hlm :
    after (lrAt [(0x100, 0xCB#8), (0x101, 0xBE#8), (0xC000, 0xFF#8)]
      fun l => { l with h := 0xC0#8, l := 0x00#8 }) fun t =>
      t.response = .cycles 16 ∧ t.lrRead 0xC000#16 = 0x7F#8 ∧ t.lr.f = 0x0B#8 ∧ t.lr.pc = 0x0102#16 := by
  decide

theorem test_lr_set_7_a :
    after (lrAt [(0x100, 0xCB#8), (0x101, 0xFF#8)] fun l => { l with a := 0x01#8 }) fun t =>
      t.response = .cycles 8 ∧ t.lr.a = 0x81#8 ∧ t.lr.f = 0x0B#8 ∧ t.lr.pc = 0x0102#16 := by
  decide

theorem test_lr_set_4_hlm :
    after (lrAt [(0x100, 0xCB#8), (0x101, 0xE6#8)] fun l => { l with h := 0xC0#8, l := 0x00#8 }) fun t =>
      t.response = .cycles 16 ∧ t.lrRead 0xC000#16 = 0x10#8 ∧ t.lr.pc = 0x0102#16 := by
  decide

theorem test_lr_nop : after (lrAt [] id) fun t =>
    t.response = .cycles 4 ∧ t.lr.pc = 0x0101#16 := by
  decide

theorem test_lr_jp_0x0150 : after (lrAt [(0x100, 0xC3#8), (0x101, 0x50#8), (0x102, 0x01#8)] id) fun t =>
    t.response = .cycles 16 ∧ t.lr.pc = 0x0150#16 := by
  decide

theorem test_lr_jp_nz_0x0150 :
    after (lrAt [(0x100, 0xC2#8), (0x101, 0x50#8), (0x102, 0x01#8)] fun l => { l with f := 0x08#8 }) fun t =>
      t.response = .cycles 12 ∧ t.lr.pc = 0x0103#16 := by
  decide

theorem test_lr_jp_hlm : after (lrAt [(0x100, 0xE9#8)] fun l => { l with h := 0x01#8, l := 0x4D#8 }) fun t =>
    t.response = .cycles 4 ∧ t.lr.pc = 0x014D#16 := by
  decide

theorem test_lr_jr_minus_128 :
    after (lrAt [(0x010, 0x18#8), (0x011, 0x80#8)] fun l => { l with pc := 0x0010#16 }) fun t =>
      t.response = .cycles 12 ∧ t.lr.pc = 0xFF92#16 := by
  decide

theorem test_lr_jr_z_5 :
    after (lrAt [(0x100, 0x28#8), (0x101, 0x05#8)] fun l => { l with f := 0x00#8 }) fun t =>
      t.response = .cycles 8 ∧ t.lr.pc = 0x0102#16 := by
  decide

theorem test_lr_call_0x0200 :
    after (lrAt [(0x100, 0xCD#8), (0x102, 0x02#8)] fun l => { l with sp := 0xFFFE#16 }) fun t =>
      t.response = .cycles 24 ∧ t.lr.pc = 0x0200#16 ∧ t.lr.sp = 0xFFFC#16 ∧ t.lrRead 0xFFFC#16 = 0x03#8 ∧
      t.lrRead 0xFFFD#16 = 0x01#8 := by
  decide

theorem test_lr_call_z_0x0200 :
    after (lrAt [(0x100, 0xCC#8), (0x102, 0x02#8)] fun l => { l with f := 0x00#8, sp := 0x0000#16 }) fun t =>
      t.response = .cycles 12 ∧ t.lr.pc = 0x0103#16 ∧ t.lr.sp = 0x0000#16 := by
  decide

theorem test_lr_ret :
    after (lrAt [(0x100, 0xC9#8), (0xC000, 0x03#8), (0xC001, 0x01#8)]
      fun l => { l with sp := 0xC000#16 }) fun t =>
      t.response = .cycles 16 ∧ t.lr.pc = 0x0103#16 ∧ t.lr.sp = 0xC002#16 := by
  decide

theorem test_lr_ret_nc :
    after (lrAt [(0x100, 0xD0#8), (0xC000, 0x03#8), (0xC001, 0x01#8)]
      fun l => { l with f := 0x00#8, sp := 0xC000#16 }) fun t =>
      t.response = .cycles 20 ∧ t.lr.pc = 0x0103#16 ∧ t.lr.sp = 0xC002#16 := by
  decide

theorem test_lr_reti :
    after (lrAt [(0x100, 0xD9#8), (0xC000, 0x03#8), (0xC001, 0x01#8)]
      fun l => { l with sp := 0xC000#16, ime := false }) fun t =>
      t.response = .cycles 16 ∧ t.lr.pc = 0x0103#16 ∧ t.lr.sp = 0xC002#16 ∧ t.lr.ime = true := by
  decide

theorem test_lr_rst_0x38 : after (lrAt [(0x100, 0xFF#8)] fun l => { l with sp := 0xFFFE#16 }) fun t =>
    t.response = .cycles 16 ∧ t.lr.pc = 0x0038#16 ∧ t.lr.sp = 0xFFFC#16 ∧ t.lrRead 0xFFFC#16 = 0x01#8 ∧
    t.lrRead 0xFFFD#16 = 0x01#8 := by
  decide

theorem test_lr_di : after (lrAt [(0x100, 0xF3#8)] fun l => { l with ime := true, eiPending := true }) fun t =>
    t.response = .cycles 4 ∧ t.lr.ime = false ∧ t.lr.eiPending = false ∧ t.lr.pc = 0x0101#16 := by
  decide

theorem test_lr_ei : after (lrAt [(0x100, 0xFB#8)] fun l => { l with ime := false }) fun t =>
    t.response = .cycles 4 ∧ t.lr.ime = false ∧ t.lr.eiPending = true ∧ t.lr.pc = 0x0101#16 := by
  decide

theorem test_lr_halt :
    after (lrAt [(0x100, 0x76#8), (0xFF0F, 0x01#8), (0xFFFF, 0x01#8)] fun l => { l with ime := false }) fun t =>
      t.response = .cycles 4 ∧ t.status = .running ∧ t.lr.skipNext = true ∧ t.lr.pc = 0x0101#16 := by
  decide

theorem test_lr_stop : after (lrAt [(0x100, 0x10#8)] id) fun t =>
    t.response = .cycles 4 ∧ t.status = .stopped ∧ t.lr.pc = 0x0102#16 := by
  decide

theorem test_lr_unassigned_byte : after (lrAt [(0x100, 0xD3#8)] id) fun t =>
    t.response = .err (.unrecognizedOpcode 0x0100#16 [0xD3#8]) ∧ t.lr.pc = 0x0100#16 := by
  decide

theorem test_lr_ld_bc_d16_at_0xfffe :
    after (lrAt [(0x000, 0x12#8), (0xFFFE, 0x01#8), (0xFFFF, 0x34#8)]
      fun l => { l with pc := 0xFFFE#16 }) fun t =>
      t.response = .cycles 12 ∧ t.bc = 0x1234#16 ∧ t.lr.pc = 0x0001#16 := by
  decide

/-! ## Single steps without a row there, calculated by hand from the rules -/

/-- R201: the two rows 0xFF and 0x81 at (62, 31) wrap at both edges; one pixel is turned off, so VF is 1. -/
theorem test_c8_drw_wraps :
    after (c8At [(0x200, 0xD0#8), (0x201, 0x12#8), (0x300, 0xFF#8), (0x301, 0x81#8)] fun l =>
      { l with v := vregs [(0, 62#8), (1, 31#8)], i := 0x300#16, fb := l.fb.set 0 (l.fb[0].set 5 true) }) fun t =>
      t.c8.fb[31][62] ∧ t.c8.fb[31][63] ∧ t.c8.fb[31][5] ∧ !t.c8.fb[31][6] ∧ t.c8.fb[0][62] ∧ !t.c8.fb[0][63] ∧
      !t.c8.fb[0][5] ∧ t.vx 15 = 0x01#8 := by
  decide

/-- R201: the coordinates are read before VF is written. -/
theorem test_c8_drw_coordinates_from_vf :
    after (c8At [(0x200, 0xDF#8), (0x201, 0xF1#8), (0x300, 0x80#8)] fun l =>
      { l with v := vregs [(15, 3#8)], i := 0x300#16 }) fun t =>
      t.c8.fb[3][3] ∧ !t.c8.fb[0][0] ∧ t.vx 15 = 0x00#8 := by
  decide

/-- R200. -/
theorem test_c8_cls :
    after (c8At [(0x200, 0x00#8), (0x201, 0xE0#8)] fun l => { l with fb := l.fb.set 31 (l.fb[31].set 63 true) }) fun t =>
      !t.c8.fb[31][63] ∧ t.c8.pc = 0x0202#16 := by
  decide

/-- R183: one draw, and the pc goes on (the byte itself is free). -/
theorem test_c8_rnd : after (c8At [(0x200, 0xC7#8), (0x201, 0x0F#8)] id) fun t =>
    t.draws = 1 ∧ t.c8.pc = 0x0202#16 ∧ t.response = .cycles 1 := by
  decide

/-- R267: 0x0F + 0xF0 + 1 carries out of both nibbles. -/
theorem test_lr_adc_m :
    after (lrAt [(0x100, 0x8E#8), (0xC000, 0xF0#8)] fun l =>
      { l with a := 0x0F#8, h := 0xC0#8, l := 0x00#8, f := 0x01#8 }) fun t =>
      t.response = .cycles 8 ∧ t.lr.a = 0x00#8 ∧ t.lr.f = 0x0B#8 := by
  decide

/-- R268: 0x10 - 0x01 borrows from bit 4. -/
theorem test_lr_sub_m :
    after (lrAt [(0x100, 0x96#8), (0xC000, 0x01#8)] fun l => { l with a := 0x10#8, h := 0xC0#8, l := 0x00#8 }) fun t =>
      t.response = .cycles 8 ∧ t.lr.a = 0x0F#8 ∧ t.lr.f = 0x06#8 := by
  decide

/-- R269: 0x10 - 0x10 - 1 is below zero. -/
theorem test_lr_sbc_m :
    after (lrAt [(0x100, 0x9E#8), (0xC000, 0x10#8)] fun l =>
      { l with a := 0x10#8, h := 0xC0#8, l := 0x00#8, f := 0x01#8 }) fun t =>
      t.response = .cycles 8 ∧ t.lr.a = 0xFF#8 ∧ t.lr.f = 0x07#8 := by
  decide

/-- R270. -/
theorem test_lr_and_m :
    after (lrAt [(0x100, 0xA6#8), (0xC000, 0x0F#8)] fun l => { l with a := 0xF0#8, h := 0xC0#8, l := 0x00#8 }) fun t =>
      t.response = .cycles 8 ∧ t.lr.a = 0x00#8 ∧ t.lr.f = 0x0A#8 := by
  decide

/-- R271. -/
theorem test_lr_xor_m :
    after (lrAt [(0x100, 0xAE#8), (0xC000, 0x3C#8)] fun l => { l with a := 0xF0#8, h := 0xC0#8, l := 0x00#8 }) fun t =>
      t.response = .cycles 8 ∧ t.lr.a = 0xCC#8 ∧ t.lr.f = 0x00#8 := by
  decide

/-- R272. -/
theorem test_lr_or_m :
    after (lrAt [(0x100, 0xB6#8), (0xC000, 0x3C#8)] fun l => { l with a := 0xF0#8, h := 0xC0#8, l := 0x00#8 }) fun t =>
      t.response = .cycles 8 ∧ t.lr.a = 0xFC#8 ∧ t.lr.f = 0x00#8 := by
  decide

/-- R273: A is kept. -/
theorem test_lr_cp_m :
    after (lrAt [(0x100, 0xBE#8), (0xC000, 0x3D#8)] fun l => { l with a := 0x3C#8, h := 0xC0#8, l := 0x00#8 }) fun t =>
      t.response = .cycles 8 ∧ t.lr.a = 0x3C#8 ∧ t.lr.f = 0x07#8 := by
  decide

/-- R275: C of the reset value of `F` is kept (log 22). -/
theorem test_lr_dec_m :
    after (lrAt [(0x100, 0x35#8), (0xC000, 0x10#8)] fun l => { l with h := 0xC0#8, l := 0x00#8 }) fun t =>
      t.response = .cycles 12 ∧ t.lrRead 0xC000#16 = 0x0F#8 ∧ t.lr.f = 0x07#8 := by
  decide

/-- The `(HL)` forms of R314 to R320 on 0x81 with C = 0: the byte left and the flags. -/
def rotatesAtHl (b1 result flags : Byte) : Bool :=
  after (lrAt [(0x100, 0xCB#8), (0x101, b1), (0xC000, 0x81#8)] fun l =>
    { l with h := 0xC0#8, l := 0x00#8, f := 0x00#8 }) fun t =>
    t.response = .cycles 16 ∧ t.lrRead 0xC000#16 = result ∧ t.lr.f = flags

theorem test_lr_rlc_m : rotatesAtHl 0x06#8 0x03#8 0x01#8 := by decide
theorem test_lr_rrc_m : rotatesAtHl 0x0E#8 0xC0#8 0x01#8 := by decide
theorem test_lr_rl_m : rotatesAtHl 0x16#8 0x02#8 0x01#8 := by decide
theorem test_lr_rr_m : rotatesAtHl 0x1E#8 0x40#8 0x01#8 := by decide
theorem test_lr_sla_m : rotatesAtHl 0x26#8 0x02#8 0x01#8 := by decide
theorem test_lr_sra_m : rotatesAtHl 0x2E#8 0xC0#8 0x01#8 := by decide
theorem test_lr_swap_m : rotatesAtHl 0x36#8 0x18#8 0x00#8 := by decide

/-- R385: source 2 before source 4, whose request stays. -/
theorem test_lr_dispatch_least_source :
    after (lrAt [(0xFFFF, 0x1F#8), (0xFF0F, 0x14#8)] fun l => { l with ime := true }) fun t =>
      t.response = .cycles 20 ∧ t.lr.pc = 0x0050#16 ∧ t.lrRead 0xFF0F#16 = 0x10#8 ∧ t.lr.ime = false ∧
      t.lrRead 0xFFFD#16 = 0x01#8 ∧ t.lrRead 0xFFFC#16 = 0x00#8 := by
  decide

/-- R75, R138 (section 2.12): the second byte of a push is protected, so the first is not written either. -/
theorem test_lr_push_undone_by_protection :
    after { lrAt [(0x100, 0xC5#8)] fun l => { l with sp := 0x8002#16, b := 0x12#8 } with
        config := ⟨.lr, [⟨0x8001, 0x8001⟩]⟩ } fun t =>
      t.response = .err (.invalidMemoryAccess 0x8001) ∧ t.lr.sp = 0x8002#16 ∧ t.lrRead 0x8000#16 = 0x00#8 ∧
      t.lr.pc = 0x0100#16 := by
  decide

/-! ## Witnesses: for each statement with hypotheses, a state and operands that meet them together -/

/-- A fresh C8 machine. -/
def c8New : State := c8At [] id

/-- A state of an instance whose bytes `0xC000..0xC001` are protected. -/
def lrProtected (f : LrState → LrState) : State :=
  { lrAt [] f with config := ⟨.lr, [⟨0xC000, 0xC001⟩]⟩ }

theorem test_witness_decode_encode : (Instr.c8Drw 1 2 15).wf = true ∧ (Instr.lrBitM 7).wf = true := by decide

theorem test_witness_encode_decode :
    decode .lr [0xCB#8, 0x6D#8, 0xC9#8] = .ok (.lrBitR 5 .l, [0xC9#8]) ∧
    decode .c8 [0xFE#8, 0x65#8] = .ok (.c8LoadRegs 14, []) := by decide

/-- Each clause of R104 at its edges: the words beside it are assigned. -/
theorem test_witness_unassigned_words :
    decodeWord 0x512F#16 = none ∧ decodeWord 0x5120#16 = some (.c8SeReg 1 2) ∧
    decodeWord 0x8128#16 = none ∧ decodeWord 0x812D#16 = none ∧ decodeWord 0x812F#16 = none ∧
    decodeWord 0x8127#16 = some (.c8Subn 1 2) ∧ decodeWord 0x9121#16 = none ∧ decodeWord 0xE19D#16 = none ∧
    decodeWord 0xE1A2#16 = none ∧ decodeWord 0xF1FF#16 = none ∧ decodeWord 0xF166#16 = none := by decide

theorem test_witness_unassigned_first_bytes :
    0xD3#8 ∈ [0xD3#8, 0xDB#8, 0xDD#8, 0xE3#8, 0xE4#8, 0xEB#8, 0xEC#8, 0xED#8, 0xF4#8, 0xFC#8, 0xFD#8] ∧
    0xD2#8 ∉ [0xD3#8, 0xDB#8, 0xDD#8, 0xE3#8, 0xE4#8, 0xEB#8, 0xEC#8, 0xED#8, 0xF4#8, 0xFC#8, 0xFD#8] := by decide

theorem test_witness_step_keeps_inv : ∃ t, State.reset.Inv ∧ step State.reset = .next t :=
  ⟨_, by decide, rfl⟩

/-- A command that writes memory, in a state that meets the invariant. -/
theorem test_witness_commands_keep_inv : ∃ t, State.reset.Inv ∧ command (.load [0x3E#8, 0x01#8]) State.reset = .next t ∧
    t.lrRead 0x0000#16 = 0x3E#8 :=
  ⟨_, by decide, rfl, by decide⟩

/-- The byte 0xD3 at the pc crashes. -/
def lrCrashing : State := lrAt [(0x100, 0xD3#8)] id

theorem test_witness_failure_is_atomic : ∃ t, lrCrashing.Safe ∧ step lrCrashing = .next t ∧
    t.status = .crashed (.unrecognizedOpcode 0x0100#16 [0xD3#8]) :=
  ⟨_, rfl, rfl, by decide⟩

theorem test_witness_step_gates :
    (c8New.setStatus (.crashed .aluError)).status = .crashed .aluError ∧
    (c8New.setStatus .halted).wakeCheck.status = .halted ∧
    (State.reset.setStatus .halted).wakeCheck.status = .halted ∧
    (State.reset.setStatus .stopped).wakeCheck.status = .stopped := by decide

theorem test_witness_status_edges_out :
    (∃ t, step (lrCrashing.setStatus (.crashed .aluError)) = .next t) ∧
    (∃ t, step (State.reset.setStatus .stopped) = .next t) ∧
    (State.reset.setStatus .halted).wakeCheck.status ≠ .running ∧
    ∃ t, step (State.reset.setStatus .halted) = .next t :=
  ⟨⟨_, rfl⟩, ⟨_, rfl⟩, by decide, ⟨_, rfl⟩⟩

theorem test_witness_status_edges_into :
    (∃ t f, step lrCrashing = .next t ∧ t.status = .crashed f ∧ lrCrashing.status ≠ .crashed f) ∧
    ∃ t, step (lrAt [(0x100, 0x10#8)] id) = .next t ∧ t.status = .stopped ∧ State.reset.status ≠ .stopped :=
  ⟨⟨_, .unrecognizedOpcode 0x0100#16 [0xD3#8], rfl, by decide, by decide⟩, ⟨_, rfl, by decide, by decide⟩⟩

theorem test_witness_step_stays_in_variant :
    (∃ t, step c8New = .next t ∧ c8New.config.system = .c8) ∧
    ∃ t, step State.reset = .next t ∧ State.reset.config.system = .lr :=
  ⟨⟨_, rfl, rfl⟩, ⟨_, rfl, rfl⟩⟩

/-- Two states of an instance of variant LR that differ in the tuple of variant C8. -/
theorem test_witness_other_variant_invisible :
    (∃ t, State.reset.SameInstance (State.reset.setDt 0x01#8) ∧ step State.reset = .next t) ∧
    State.reset ≠ State.reset.setDt 0x01#8 :=
  ⟨⟨_, ⟨rfl, rfl, rfl, rfl, rfl, nofun, fun _ => rfl⟩, rfl⟩, by decide⟩

/-- Does `exec i` at `s` answer a next state with the property? -/
def execTo (i : Instr) (s : State) (check : State → Bool) : Bool :=
  match exec i s with
  | .next t => check t
  | .fault _ | .refused _ => false

theorem test_witness_c8_writers :
    execTo (.c8LdI 0x345#12) c8New (fun t => t.c8.i ≠ c8New.c8.i) ∧
    execTo (.c8Call 0x300#12) c8New (fun t => t.c8.sp ≠ c8New.c8.sp ∧ t.c8.stack ≠ c8New.c8.stack) ∧
    execTo (.c8LdDtVx 1) (c8New.setV 1 0x07#8) (fun t => t.c8.dt ≠ c8New.c8.dt) ∧
    execTo (.c8LdStVx 1) (c8New.setV 1 0x07#8) (fun t => t.c8.st ≠ c8New.c8.st) ∧
    execTo (.c8Drw 0 0 5) (c8New.setI 0x050#16) (fun t => t.c8.fb[0][0] ≠ c8New.c8.fb[0][0]) ∧
    execTo (.c8StoreRegs 1) (c8New.setV 1 0x07#8) (fun t => t.c8.mem ≠ c8New.c8.mem) ∧
    execTo (.c8LdVxK 7) c8New (fun t => t.c8.waitReg ≠ c8New.c8.waitReg ∧ t.status = .halted) ∧
    c8New.status ≠ .halted := by decide

theorem test_witness_lr_writers :
    execTo (.lrPush .bc) State.reset (fun t => t.lr.sp ≠ State.reset.lr.sp) ∧
    execTo .lrDi (State.reset.setIme true) (fun t => t.lr.ime ≠ true) ∧
    execTo .lrEi State.reset (fun t => t.lr.eiPending ≠ State.reset.lr.eiPending) ∧
    execTo .lrHalt (lrAt [(0xFFFF, 0x01#8), (0xFF0F, 0x01#8)] id) (fun t => t.lr.skipNext ≠ State.reset.lr.skipNext) ∧
    execTo (.lrStop 0x00#8) State.reset (fun t => t.status = .stopped) ∧ State.reset.status ≠ .stopped := by decide

/-- The hypotheses of the fetch and of the gates, for a state and the bytes it fetches. -/
def readyFor (s : State) (bytes : List Byte) (i : Instr) : Bool :=
  !isCrashed s.status ∧ !isWaiting s.wakeCheck.status ∧ !s.wakeCheck.dispatches ∧ !s.wakeCheck.skips ∧
  s.wakeCheck.fetchBytes = .ok bytes ∧ decode s.wakeCheck.config.system bytes = .ok (i, [])

/-- Both clauses: an instruction that completes, and one that fails. -/
theorem test_witness_step_runs_decoded :
    readyFor (lrAt [(0x100, 0xC5#8)] id) [0xC5#8] (.lrPush .bc) ∧
    execTo (.lrPush .bc) ((lrAt [(0x100, 0xC5#8)] id).commitEi.recordFetch 0x0100#16 [0xC5#8])
      (fun t => !isCrashed t.status) ∧
    readyFor (lrAt [(0x100, 0xC5#8)] fun l => { l with sp := 0x0001#16 }) [0xC5#8] (.lrPush .bc) ∧
    execTo (.lrPush .bc)
      ((lrAt [(0x100, 0xC5#8)] fun l => { l with sp := 0x0001#16 }).commitEi.recordFetch 0x0100#16 [0xC5#8])
      (fun t => t.status = .crashed (.invalidStackAccess 1)) := by decide

/-- An instruction in the last two bytes of variant C8, and one that wraps around the end of variant LR. -/
theorem test_witness_fetch_reads_encoding :
    (let s := c8At [(0xFFE, 0x1A#8), (0xFFF, 0xBC#8)] fun l => { l with pc := 0xFFE#16 }
     s.config.system = .c8 ∧ s.c8.pc.toNat < 0xFFF ∧ encode (.c8Jp 0xABC#12) = [s.c8Byte 0xFFE, s.c8Byte 0xFFF]) ∧
    (let s := lrAt [(0xFFFE, 0x01#8), (0xFFFF, 0x34#8), (0x0000, 0x12#8)] fun l => { l with pc := 0xFFFE#16 }
     s.config.system = .lr ∧ encode (.lrLdPairN .bc 0x1234#16) =
       [s.lrRead (s.lr.pc + 0#16), s.lrRead (s.lr.pc + 1#16), s.lrRead (s.lr.pc + 2#16)]) := by decide

/-- Running states, and on either variant a halted one that the wake check has running. -/
theorem test_witness_fetch_and_decode_failures :
    (let s := (c8New.setKeys (C8State.reset.keys.set 15 true)).setStatus .halted
     s.wakeCheck.status = .running ∧ (s.setC8Pc 0x1000#16).wakeCheck.c8.pc.toNat > 0xFFF) ∧
    (let s := (lrAt [(0x100, 0xD3#8), (0xFFFF, 0x10#8), (0xFF0F, 0x10#8)] id).setStatus .halted
     s.wakeCheck.status = .running ∧ s.wakeCheck.interruptDue = false ∧ s.wakeCheck.lrRead s.wakeCheck.lr.pc = 0xD3#8) ∧
    c8New.wakeCheck.status = .running ∧ (c8New.setC8Pc 0x1000#16).c8.pc.toNat > 0xFFF ∧
    (c8New.setC8Pc 0xFFF#16).c8.pc = 0xFFF#16 ∧ (c8New.setC8Pc 0xFFE#16).c8.pc.toNat < 0xFFF ∧
    decodeWord (0x51#8 ++ 0x21#8) = none ∧ decodeWord (0x00#8 ++ 0x00#8) = some (.c8Sys 0x000#12) ∧
    lrCrashing.wakeCheck.status = .running ∧ lrCrashing.interruptDue = false ∧
    lrCrashing.lrRead lrCrashing.lr.pc = 0xD3#8 := by decide

theorem test_witness_skip_step :
    let s := lrAt [(0x100, 0xC2#8), (0x101, 0x50#8), (0x102, 0x01#8)] fun l =>
      { l with skipNext := true, eiPending := true }
    s.config.system = .lr ∧ s.status = .running ∧ s.interruptDue = false ∧ s.lr.skipNext = true ∧
    s.fetchBytes = .ok [0xC2#8, 0x50#8, 0x01#8] ∧
    decode .lr [0xC2#8, 0x50#8, 0x01#8] = .ok (.lrJpCc .nz 0x0150#16, []) := by decide

/-- The state after an `EI`, with `byte` the next instruction and a source pending. -/
def afterEi (byte : Byte) : State :=
  lrAt [(0x100, byte), (0xFFFF, 0x01#8), (0xFF0F, 0x01#8)] fun l => { l with eiPending := true }

theorem test_witness_ei_delay :
    (afterEi 0x00#8).fetchBytes = .ok [0x00#8] ∧ decode .lr [0x00#8] = .ok (.lrNop, []) ∧
    (afterEi 0x00#8).lr.ime = false ∧ (afterEi 0x00#8).lr.skipNext = false ∧
    after (afterEi 0x00#8) (fun t => !isCrashed t.status ∧ t.lr.ime ∧ t.lr.pc = 0x0101#16) ∧
    after (afterEi 0xF3#8) (fun t => !isCrashed t.status ∧ !t.lr.ime) ∧
    after (afterEi 0xFB#8) (fun t => !isCrashed t.status ∧ t.lr.ime ∧ t.lr.eiPending) := by decide

theorem test_witness_cycle_table :
    execTo (.lrCallCc .z 0x0200#16) (lrAt [] fun l => { l with f := 0x08#8 }) (fun t => t.response = .cycles 24) ∧
    execTo (.lrCallCc .z 0x0200#16) (lrAt [] fun l => { l with f := 0x00#8 }) (fun t => t.response = .cycles 12) ∧
    execTo .lrNop State.reset (fun t => t.response = .cycles 4) ∧
    takenCycles (.lrRetCc .c) ≠ notTakenCycles (.lrRetCc .c) := by decide

/-- Source `k` the only one, `SP` as given, in a status. -/
def irqState (k : Nat) (status : Status) (sp : Word) : State :=
  (lrAt [(0xFFFF, BitVec.ofNat 8 (2 ^ k)), (0xFF0F, 0x1F#8)] fun l => { l with ime := true, sp := sp }).setStatus status

/-- Do the hypotheses of the dispatch of source `k` hold? -/
def dispatchReady (k : Nat) (s : State) : Bool :=
  s.config.system = .lr ∧ (s.status = .running ∨ s.status = .halted) ∧ s.lr.ime ∧ k < 5 ∧
  (s.lrRead 0xFFFF#16).getLsbD k ∧ (s.lrRead 0xFF0F#16).getLsbD k ∧
  (∀ j < k, (s.lrRead 0xFFFF#16).getLsbD j = false ∨ (s.lrRead 0xFF0F#16).getLsbD j = false)

/-- Each way a dispatch ends: it completes (from both statuses), the stack is too low, a byte is protected. -/
theorem test_witness_interrupt_dispatch :
    let protect (r : AddrRange) (s : State) : State := { s with config := ⟨.lr, [r]⟩ }
    let low := irqState 4 .running 0x0001#16
    let ok := irqState 0 .running 0x0002#16
    let ifByte := protect ⟨0xFF0F, 0xFF0F⟩ ok
    let lower := protect ⟨0xC000, 0xC000⟩ (irqState 1 .running 0xC002#16)
    let upper := protect ⟨0xC001, 0xC001⟩ (irqState 1 .running 0xC002#16)
    dispatchReady 0 ok ∧ dispatchReady 4 (irqState 4 .halted 0xFFFE#16) ∧ 2 ≤ ok.lr.sp.toNat ∧
    ok.readOnlyAt 0xFF0F = false ∧ dispatchReady 4 low ∧ low.lr.sp.toNat < 2 ∧
    dispatchReady 0 ifByte ∧ ifByte.readOnlyAt 0xFF0F = true ∧
    dispatchReady 1 lower ∧ lower.readOnlyAt (lower.lr.sp - 2#16).toNat = true ∧
    dispatchReady 1 upper ∧ upper.readOnlyAt (upper.lr.sp - 2#16).toNat = false ∧
    upper.readOnlyAt (upper.lr.sp - 1#16).toNat = true := by decide

theorem test_witness_wake_checks :
    (let s := (c8New.setKeys (C8State.reset.keys.set 15 true)).setStatus .halted
     s.status = .halted ∧ s.c8.keys[15] = true ∧ ∀ j : Fin 16, j < 15 → s.c8.keys[j.val] = false) ∧
    (∀ j : Fin 16, (c8New.setStatus .halted).c8.keys[j.val] = false) ∧
    (let s := (lrAt [(0xFFFF, 0x10#8), (0xFF0F, 0x10#8)] id).setStatus .halted
     s.status = .halted ∧ ∃ k < 5, (s.lrRead 0xFFFF#16).getLsbD k = true ∧ (s.lrRead 0xFF0F#16).getLsbD k = true) ∧
    (let s := (lrAt [(0xFFFF, 0xE0#8), (0xFF0F, 0xE0#8)] id).setStatus .halted
     ∀ k < 5, (s.lrRead 0xFFFF#16).getLsbD k = false ∨ (s.lrRead 0xFF0F#16).getLsbD k = false) ∧
    c8New.config.system = .c8 ∧ State.reset.config.system = .lr := by decide

/-- A press while another button is held, and a release; a stopped core; the highest source. -/
theorem test_witness_host_inputs :
    (let vec := (LrState.reset.buttons.set 7 true).set 0 true
     let s := State.reset.setButtons (LrState.reset.buttons.set 0 true)
     (∃ k : Fin 8, vec[k.val] = true ∧ s.lr.buttons[k.val] = false) ∧
     ∀ k : Fin 8, LrState.reset.buttons[k.val] = true → s.lr.buttons[k.val] = true) ∧
    c8New.config.system = .c8 ∧ State.reset.config.system = .lr ∧ 4 < 5 := by decide

theorem test_witness_load_places_image :
    ([] : List Byte).length ≤ 3584 ∧ (List.replicate 3584 0x01#8).length ≤ 3584 ∧
    3584 < (List.replicate 3585 0x01#8).length ∧ (List.replicate 32768 0x01#8).length ≤ 32768 ∧
    32768 < (List.replicate 32769 0x01#8).length := by
  simp only [List.length_replicate]; decide

theorem test_witness_readouts_and_refusals :
    c8New.config.system = .c8 ∧ State.reset.config.system = .lr ∧ 5 ≤ 5 ∧ [true].length ≠ 16 ∧ [true].length ≠ 8 := by
  decide

theorem test_witness_memory_round_trip :
    c8New.readOnlyAt 0xFFF = false ∧ (0x1000 : Nat) > 0xFFF ∧
    { c8New with config := ⟨.c8, [⟨0x200, 0x200⟩]⟩ }.readOnlyAt 0x200 = true ∧
    State.reset.readOnlyAt (0xFFFF#16).toNat = false ∧ (lrProtected id).readOnlyAt (0xC001#16).toNat = true := by
  decide

/-- The stack pointer at the edges of the four clauses. -/
theorem test_witness_c8_control :
    (c8New.setC8Sp 15).c8.sp.val < 16 ∧ (c8New.setC8Sp 16).c8.sp = 16 ∧ 0 < (c8New.setC8Sp 1).c8.sp.val ∧
    c8New.c8.sp = 0 := by decide

theorem test_witness_call_return : c8New.c8.sp.val + (List.replicate 15 0x300#12).length + 1 ≤ 16 ∧
    State.reset.CanPush := by
  exact ⟨by decide, by decide, by decide, by decide⟩

theorem test_witness_c8_skips : ((c8New.setV 4 0x0F#8).vx 4).toNat < 16 := by decide

/-- A glyph number of 16; the first of three bytes outside at `I = 0xFFE`; a protected byte before it; reads. -/
theorem test_witness_c8_failures :
    15 < ((c8New.setV 4 0x10#8).vx 4).toNat ∧
    (c8New.setI 0xFFE#16).c8WriteFails (0xFFE + 2) ∧ !(c8New.setI 0xFFE#16).c8WriteFails (0xFFE + 1) ∧
    (let s := { c8New with config := ⟨.c8, [⟨0xFFF, 0xFFF⟩]⟩ }
     s.c8WriteFails (0xFFE + 1) ∧ !s.c8WriteFails 0xFFE) ∧
    FirstFailure (fun a => decide (0xFFF < a)) 0xFFF 2 1 ∧ FirstFailure (fun a => decide (0xFFF < a)) 0xFFFF 1 0 := by
  refine ⟨by decide, by decide, by decide, by decide, ⟨by decide, by decide, by decide⟩, by decide, by decide,
    by decide⟩

theorem test_witness_c8_random_and_index : ((c8New.setV 1 0x0F#8).vx 1).toNat ≤ 15 := by decide

theorem test_witness_c8_block_moves :
    (∀ k < 3, (c8New.setI 0xFFD#16).c8WriteFails ((c8New.setI 0xFFD#16).c8.i.toNat + k) = false) ∧
    (∀ k ≤ (15 : VReg).val, (c8New.setI 0xFF0#16).c8WriteFails ((c8New.setI 0xFF0#16).c8.i.toNat + k) = false) ∧
    (c8New.setI 0xFF0#16).c8.i.toNat + (15 : VReg).val ≤ 0xFFF := by decide

theorem test_witness_c8_display :
    ((0 : Fin 16).val = 0 ∨ (c8New.setI 0xFFFF#16).c8.i.toNat + 0 ≤ 0x1000) ∧
    (c8New.setI 0xFF1#16).c8.i.toNat + (15 : Fin 16).val ≤ 0x1000 := by decide

theorem test_witness_lr_stores :
    let s := State.reset
    s.readOnlyAt s.hl.toNat = false ∧ s.readOnlyAt s.bc.toNat = false ∧ s.readOnlyAt s.de.toNat = false ∧
    s.readOnlyAt (0xFFFF#16).toNat = false ∧ s.readOnlyAt (0xFF00 + (0xFF#8).toNat) = false ∧
    s.readOnlyAt (0xFF00 + s.lr.c.toNat) = false := by decide

theorem test_witness_lr_failures_stores :
    let s := lrProtected fun l => { l with b := 0xC0#8, c := 0x00#8, d := 0xC0#8, e := 0x01#8, h := 0xC0#8, l := 0x01#8 }
    let high := { State.reset with config := ⟨.lr, [⟨0xFF13, 0xFF20⟩]⟩ }
    s.readOnlyAt s.hl.toNat = true ∧ s.readOnlyAt s.bc.toNat = true ∧ s.readOnlyAt s.de.toNat = true ∧
    s.readOnlyAt (0xC001#16).toNat = true ∧ s.readOnlyAt (0xBFFF#16).toNat = false ∧
    s.readOnlyAt (0xBFFF#16 + 1#16).toNat = true ∧ high.readOnlyAt (0xFF00 + (0x20#8).toNat) = true ∧
    high.readOnlyAt (0xFF00 + high.lr.c.toNat) = true := by decide

theorem test_witness_lr_failures_stack :
    (lrAt [] fun l => { l with sp := 0x0001#16 }).lr.sp.toNat < 2 ∧
    (let s := lrProtected fun l => { l with sp := 0xC002#16 }
     2 ≤ s.lr.sp.toNat ∧ s.readOnlyAt (s.lr.sp - 2#16).toNat = true) ∧
    (let s := lrProtected fun l => { l with sp := 0xC001#16 }
     2 ≤ s.lr.sp.toNat ∧ s.readOnlyAt (s.lr.sp - 2#16).toNat = false ∧ s.readOnlyAt (s.lr.sp - 1#16).toNat = true) ∧
    0xFFFD < State.reset.lr.sp.toNat ∧ State.reset.cond .z = true ∧ State.reset.cond .nz = false := by decide

theorem test_witness_lr_loads16_and_stack :
    (let s := lrAt [] fun l => { l with sp := 0x0002#16 }
     2 ≤ s.lr.sp.toNat ∧ s.readOnlyAt (s.lr.sp - 2#16).toNat = false ∧ s.readOnlyAt (s.lr.sp - 1#16).toNat = false) ∧
    (lrAt [] fun l => { l with sp := 0xFFFD#16 }).lr.sp.toNat ≤ 0xFFFD ∧ StackPair.hl ≠ .af ∧
    State.reset.readOnlyAt (0xFFFF#16).toNat = false ∧ State.reset.readOnlyAt (0xFFFF#16 + 1#16).toNat = false := by
  decide

theorem test_witness_lr_writable_operands :
    State.reset.Writable (.reg .a) ∧ State.reset.Writable .atHl := ⟨trivial, rfl⟩

theorem test_witness_daa_adds_decimals :
    let s := lrAt [] fun l => { l with a := 0x45#8, b := 0x38#8 }
    ∃ t u, s.lr.a.toNat = 45 / 10 * 16 + 45 % 10 ∧ (s.reg .b).toNat = 38 / 10 * 16 + 38 % 10 ∧
      exec (.lrAddR .b) s = .next t ∧ exec .lrDaa t = .next u :=
  ⟨_, _, by decide, by decide, rfl, rfl⟩

theorem test_witness_prefix_selects : State.reset.readOnlyAt State.reset.hl.toNat = false := by decide

theorem test_witness_lr_calls_and_returns :
    State.reset.CanPush ∧ State.reset.cond .z = true ∧ State.reset.cond .nz = false ∧
    (lrAt [] fun l => { l with sp := 0xFFFD#16 }).lr.sp.toNat ≤ 0xFFFD := by
  exact ⟨⟨by decide, by decide, by decide⟩, by decide, by decide, by decide⟩

end Sys2Proof.Tests
end

/-! Proofs of the statements on scope: what a step leaves, what it does not read, and the invariant under every
command of the host. One relation (`State.Evolves`) says what an answer leaves of a state, one operation
(`State.withInert`) exchanges what a machine of a variant has no use for, and `Within` says of an action that
it evolves the state and commutes with that exchange. -/

namespace Sys2Proof

/-! ## The decoder answers instructions of the machine's variant -/

theorem onOperand_system {code : Nat} {f : Reg8 → Instr} {m : Instr} (hf : ∀ r, (f r).system = .lr)
    (hm : m.system = .lr) : (onOperand code f m).system = .lr := by
  unfold onOperand
  split
  · exact hf _
  · exact hm

theorem decodeAlu_system (yyy zzz : Nat) : (decodeAlu yyy zzz).system = .lr := by
  unfold decodeAlu
  split <;> exact onOperand_system (fun _ => rfl) rfl

theorem decodeAluImm_system (yyy : Nat) (d8 : Byte) : (decodeAluImm yyy d8).system = .lr := by
  unfold decodeAluImm
  split <;> rfl

theorem decodePrefixed_system (b1 : Byte) : (decodePrefixed b1).system = .lr := by
  unfold decodePrefixed decodeRot
  dsimp only
  split
  · split <;> exact onOperand_system (fun _ => rfl) rfl
  all_goals exact onOperand_system (fun _ => rfl) rfl

theorem decodeQuadrant0_system (b0 b1 : Byte) (imm : Word) : (decodeQuadrant0 b0 b1 imm).system = .lr := by
  unfold decodeQuadrant0
  dsimp only
  split
  case h_5 | h_6 | h_7 => exact onOperand_system (fun _ => rfl) rfl
  all_goals split <;> rfl

theorem decodeQuadrant1_system (b0 : Byte) : (decodeQuadrant1 b0).system = .lr := by
  unfold decodeQuadrant1
  split <;> rfl

theorem decodeQuadrant3_system {b0 b1 : Byte} {imm : Word} {i : Instr} (h : decodeQuadrant3 b0 b1 imm = some i) :
    i.system = .lr := by
  unfold decodeQuadrant3 at h
  dsimp only at h
  split at h
  case h_4 =>
    split at h
    case h_2 => cases h; exact decodePrefixed_system b1
    all_goals cases h <;> rfl
  case h_7 => cases h; exact decodeAluImm_system _ b1
  case h_8 => cases h; rfl
  all_goals split at h <;> cases h <;> rfl

theorem decodeBytes_system {b0 b1 b2 : Byte} {i : Instr} (h : decodeBytes b0 b1 b2 = some i) :
    i.system = .lr := by
  unfold decodeBytes at h
  split at h
  · cases h; exact decodeQuadrant0_system b0 b1 _
  · cases h; exact decodeQuadrant1_system b0
  · cases h; exact decodeAlu_system _ _
  · exact decodeQuadrant3_system h

theorem decodeArith_system {x y : VReg} {n : Nat} {i : Instr} (h : decodeArith x y n = some i) :
    i.system = .c8 := by
  unfold decodeArith at h
  split at h <;> cases h <;> rfl

theorem decodeKey_system {x : VReg} {n : Nat} {i : Instr} (h : decodeKey x n = some i) : i.system = .c8 := by
  unfold decodeKey at h
  split at h <;> cases h <;> rfl

theorem decodeMisc_system {x : VReg} {n : Nat} {i : Instr} (h : decodeMisc x n = some i) : i.system = .c8 := by
  unfold decodeMisc at h
  split at h <;> cases h <;> rfl

theorem decodeZero_system (nnn : BitVec 12) : (decodeZero nnn).system = .c8 := by
  unfold decodeZero
  split
  · rfl
  · split <;> rfl

theorem decodeWord_system {w : Word} {i : Instr} (h : decodeWord w = some i) : i.system = .c8 := by
  unfold decodeWord at h
  dsimp only at h
  split at h
  case h_1 => cases h; exact decodeZero_system _
  case h_9 => exact decodeArith_system h
  case h_15 => exact decodeKey_system h
  case h_16 => exact decodeMisc_system h
  case h_6 | h_10 => split at h <;> cases h; rfl
  all_goals cases h; rfl

/-- What decodes is an instruction of the variant it was decoded for (R100). -/
theorem decode_system {sys : System} {bytes rest : List Byte} {i : Instr}
    (h : decode sys bytes = .ok (i, rest)) : i.system = sys := by
  cases sys with
  | c8 =>
    simp only [decode, decodeC8] at h
    split at h
    · split at h
      · next hw => cases h; exact decodeWord_system hw
      · cases h
    · cases h
  | lr =>
    simp only [decode, decodeLr] at h
    split at h
    · split at h
      · cases h
      · split at h
        · cases h
        · split at h
          · next hb => cases h; exact decodeBytes_system hb
          · cases h
    · cases h

end Sys2Proof

namespace Sys2Proof.Machine

/-! ## The inert part of a state -/

/-- `s` with the part that is inert for a machine of variant `sys` taken from `o`: the tuple of the other
variant (R20), and for LR the count of draws too, which only `RND` uses (log 5). -/
def State.withInert (s : State) (sys : System) (o : State) : State :=
  { s with
    c8 := match sys with | .c8 => s.c8 | .lr => o.c8
    lr := match sys with | .c8 => o.lr | .lr => s.lr
    draws := match sys with | .c8 => s.draws | .lr => o.draws }

/-- A state has its own inert part. -/
theorem State.withInert_self (s : State) (sys : System) : s.withInert sys s = s := by
  cases sys <;> rfl

/-- Two views of one machine differ in the inert part only. -/
theorem State.SameInstance.eq_withInert {s t : State} (h : s.SameInstance t) :
    t = s.withInert s.config.system t := by
  obtain ⟨hcf, hst, hlo, hre, hdr, hc8, hlr⟩ := h
  cases hs : s.config.system with
  | c8 => simp [State.withInert, hcf, hst, hlo, hre, hdr, hc8 hs]
  | lr => simp [State.withInert, hcf, hst, hlo, hre, hlr hs]

/-- Exchanging the inert part gives another view of the same machine, where the count of draws agrees. -/
theorem State.sameInstance_withInert {s o : State} {sys : System} (hs : s.config.system = sys)
    (hd : sys = .lr → o.draws = s.draws) : s.SameInstance (s.withInert sys o) := by
  cases sys with
  | c8 => exact ⟨rfl, rfl, rfl, rfl, rfl, fun _ => rfl, fun h => by simp [hs] at h⟩
  | lr => exact ⟨rfl, rfl, rfl, rfl, (hd rfl).symm, fun h => by simp [hs] at h, fun _ => rfl⟩

/-! ## What an answer leaves of a state -/

/-- The failure is one that `STEP` can raise on a machine of variant `sys` (R370, R372). -/
def RaisedOn (sys : System) (f : Failure) : Prop :=
  ∀ s : State, s.config.system = sys → (s.crash f).StatusWf = true

/-- From `s` a machine of variant `sys` can come to `t`: the configuration (R1) and the host's inputs
(R28, R50) are unchanged, and the invariant is kept. Of an update that writes neither these nor memory, `F` or
the status all four hold by definition. -/
structure State.Evolves (sys : System) (s t : State) : Prop where
  config : t.config = s.config
  keys : t.c8.keys = s.c8.keys
  buttons : t.lr.buttons = s.lr.buttons
  inv : s.config.system = sys → s.Inv → t.Inv

theorem State.Evolves.trans {sys : System} {s t u : State} (h : s.Evolves sys t) (h' : t.Evolves sys u) :
    s.Evolves sys u :=
  ⟨h'.config.trans h.config, h'.keys.trans h.keys, h'.buttons.trans h.buttons,
    fun hs hi => h'.inv (h.config ▸ hs) (h.inv hs hi)⟩

theorem State.Evolves.refl (sys : System) (s : State) : s.Evolves sys s :=
  ⟨rfl, rfl, rfl, fun _ h => h⟩

/-- What an operation of an instruction started in `s` may end in: a state that `s` evolves to, or a failure of
the variant. -/
def Ends (sys : System) (s : State) : Except Failure State → Prop
  | .ok t => s.Evolves sys t
  | .error f => RaisedOn sys f

theorem Ends.after {sys : System} {s t : State} {r : Except Failure State} (h : s.Evolves sys t)
    (hr : Ends sys t r) : Ends sys s r := by
  cases r with
  | ok u => exact h.trans hr
  | error f => exact hr

theorem Ends.bind {sys : System} {s : State} {r : Except Failure State} {k : State → Except Failure State}
    (hr : Ends sys s r) (hk : ∀ t, Ends sys t (k t)) : Ends sys s (r.bind k) := by
  cases r with
  | ok t => exact (hk t).after hr
  | error f => exact hr

theorem Ends.map {sys : System} {s : State} {r : Except Failure State} {k : State → State}
    (hr : Ends sys s r) (hk : ∀ t : State, t.Evolves sys (k t)) : Ends sys s (r.map k) := by
  cases r with
  | ok t => exact hr.trans (hk t)
  | error f => exact hr

/-! ### Failures -/

theorem raisedOn_unrecognizedOpcode (sys : System) (pc : Word) (bytes : List Byte) :
    RaisedOn sys (.unrecognizedOpcode pc bytes) := by
  intro s hs
  cases sys <;> simp [State.StatusWf, hs, raisedByStep]

theorem raisedOn_invalidStackAccess (sys : System) (sp : Nat) : RaisedOn sys (.invalidStackAccess sp) := by
  intro s hs
  cases sys <;> simp [State.StatusWf, hs, raisedByStep]

theorem raisedOn_invalidMemoryAccess (sys : System) (a : Nat) : RaisedOn sys (.invalidMemoryAccess a) := by
  intro s hs
  cases sys <;> simp [State.StatusWf, hs, raisedByStep]

theorem raisedOn_invalidOpcodeUsage (v : Byte) : RaisedOn .c8 (.invalidOpcodeUsage v) := by
  intro s hs
  simp [State.StatusWf, hs, raisedByStep]

/-! ### Named updates -/

/-- A crash of a kind the variant can have keeps the invariant. -/
theorem evolves_crash {sys : System} {f : Failure} (s : State) (hf : RaisedOn sys f) :
    s.Evolves sys (s.crash f) :=
  ⟨rfl, rfl, rfl, fun hs ⟨hm, hfl, _⟩ => ⟨hm, hfl, hf s hs⟩⟩

theorem evolves_respond (sys : System) (s : State) (r : Response) : s.Evolves sys (s.respond r) :=
  ⟨rfl, rfl, rfl, fun _ h => h⟩

theorem evolves_recordFetch (sys : System) (s : State) (pc : Word) (bytes : List Byte) :
    s.Evolves sys (s.recordFetch pc bytes) :=
  ⟨rfl, rfl, rfl, fun _ h => h⟩

/-- Every variant can be `Running`. -/
theorem statusWf_setStatus_running (s : State) : (s.setStatus .running).StatusWf = true := by
  cases hs : s.config.system <;> simp [State.StatusWf, hs]

/-- Every variant can be `Halted`. -/
theorem statusWf_setStatus_halted (s : State) : (s.setStatus .halted).StatusWf = true := by
  cases hs : s.config.system <;> simp [State.StatusWf, hs]

theorem evolves_setStatus_running (sys : System) (s : State) : s.Evolves sys (s.setStatus .running) :=
  ⟨rfl, rfl, rfl, fun _ ⟨hm, hfl, _⟩ => ⟨hm, hfl, statusWf_setStatus_running s⟩⟩

theorem evolves_setStatus_halted (sys : System) (s : State) : s.Evolves sys (s.setStatus .halted) :=
  ⟨rfl, rfl, rfl, fun _ ⟨hm, hfl, _⟩ => ⟨hm, hfl, statusWf_setStatus_halted s⟩⟩

/-- Variant LR can be `Stopped`. -/
theorem evolves_setStatus_stopped (s : State) : s.Evolves .lr (s.setStatus .stopped) :=
  ⟨rfl, rfl, rfl, fun hs ⟨hm, hfl, _⟩ => ⟨hm, hfl, by simp [State.StatusWf, hs]⟩⟩

theorem evolves_setV (s : State) (x : VReg) (v : Byte) : s.Evolves .c8 (s.setV x v) :=
  ⟨rfl, rfl, rfl, fun _ h => h⟩

theorem evolves_setWaitReg (s : State) (x : VReg) : s.Evolves .c8 (s.setWaitReg x) :=
  ⟨rfl, rfl, rfl, fun _ h => h⟩

theorem evolves_setReg (s : State) (r : Reg8) (v : Byte) : s.Evolves .lr (s.setReg r v) := by
  cases r <;> exact ⟨rfl, rfl, rfl, fun _ h => h⟩

theorem evolves_setReg_setReg (s : State) (r r' : Reg8) (v v' : Byte) :
    s.Evolves .lr ((s.setReg r v).setReg r' v') :=
  (evolves_setReg s r v).trans (evolves_setReg _ r' v')

/-- Bits 7..4 of `F` ignore the write (R43). -/
theorem evolves_writeF (s : State) (v : Byte) : s.Evolves .lr (s.writeF v) :=
  ⟨rfl, rfl, rfl, fun _ ⟨hm, _, hst⟩ => ⟨hm, flagsWf_writeF s v, hst⟩⟩

theorem evolves_setFlags (s : State) (fl : Flags) : s.Evolves .lr (s.setFlags fl) :=
  evolves_writeF s _

theorem evolves_setAcc (s : State) (r : Byte × Flags) : s.Evolves .lr (s.setAcc r) :=
  (evolves_setReg s .a r.1).trans (evolves_setFlags _ r.2)

theorem evolves_setHl (s : State) (w : Word) : s.Evolves .lr (s.setHl w) :=
  evolves_setReg_setReg s .h .l _ _

theorem evolves_setLrPc (s : State) (w : Word) : s.Evolves .lr (s.setLrPc w) :=
  ⟨rfl, rfl, rfl, fun _ h => h⟩

theorem evolves_setSp (s : State) (w : Word) : s.Evolves .lr (s.setSp w) :=
  ⟨rfl, rfl, rfl, fun _ h => h⟩

theorem evolves_setIme (s : State) (b : Bool) : s.Evolves .lr (s.setIme b) :=
  ⟨rfl, rfl, rfl, fun _ h => h⟩

theorem evolves_setPair (s : State) (p : Pair) (w : Word) : s.Evolves .lr (s.setPair p w) := by
  cases p with
  | sp => exact evolves_setSp s w
  | bc => exact evolves_setReg_setReg s .b .c _ _
  | de => exact evolves_setReg_setReg s .d .e _ _
  | hl => exact evolves_setReg_setReg s .h .l _ _

theorem evolves_setStackPair (s : State) (p : StackPair) (w : Word) : s.Evolves .lr (s.setStackPair p w) := by
  cases p with
  | af => exact (evolves_setReg s .a _).trans (evolves_writeF _ _)
  | bc => exact evolves_setReg_setReg s .b .c _ _
  | de => exact evolves_setReg_setReg s .d .e _ _
  | hl => exact evolves_setReg_setReg s .h .l _ _

/-- A byte stored keeps the memory canonical: its address is one of 16 bits. -/
theorem evolves_lrPoke (s : State) (a : Word) (v : Byte) : s.Evolves .lr (s.lrPoke a v) :=
  ⟨rfl, rfl, rfl, fun _ ⟨⟨hc8, hlr⟩, hfl, hst⟩ => ⟨⟨hc8, memoryWf_writeCell v hlr a.isLt⟩, hfl, hst⟩⟩

/-! ### Access primitives -/

/-- A read of variant C8 that is refused is a bad memory access (R72). -/
theorem c8Read_error {s : State} {a n : Nat} {f : Failure} (h : s.c8Read a n = .error f) :
    RaisedOn .c8 f := by
  unfold State.c8Read at h
  split at h
  · cases h
    exact raisedOn_invalidMemoryAccess _ _
  · cases h

/-- A store of variant C8 ends within the 4096 bytes or is refused (R73). -/
theorem ends_c8Write (s : State) (a : Nat) (vs : List Byte) : Ends .c8 s (s.c8Write a vs) := by
  unfold State.c8Write
  split
  · exact raisedOn_invalidMemoryAccess _ _
  · next hnone =>
    refine ⟨rfl, rfl, rfl, fun _ ⟨⟨hc8, hlr⟩, hfl, hst⟩ => ⟨⟨?_, hlr⟩, hfl, hst⟩⟩
    rcases vs with _ | ⟨v, vs⟩
    · exact hc8
    · have hlast := List.find?_eq_none.1 hnone vs.length (by simp)
      simp only [State.c8WriteFails, c8ReadFails, Bool.or_eq_true, decide_eq_true_eq, not_or] at hlast
      exact memoryWf_writeCells _ hc8 (by simp [memSize]; omega)

theorem ends_lrWrite (s : State) (a : Word) (v : Byte) : Ends .lr s (s.lrWrite a v) := by
  cases h : s.readOnlyAt a.toNat with
  | false => exact (lrWrite_eq s a v).1 h ▸ evolves_lrPoke s a v
  | true => exact (lrWrite_eq s a v).2 h ▸ raisedOn_invalidMemoryAccess _ _

theorem ends_lrWrite16 (s : State) (a v : Word) : Ends .lr s (s.lrWrite16 a v) :=
  (ends_lrWrite s a _).bind fun t => ends_lrWrite t _ _

theorem ends_push16 (s : State) (v : Word) : Ends .lr s (s.push16 v) := by
  unfold State.push16
  split
  · exact raisedOn_invalidStackAccess _ _
  · exact (ends_lrWrite16 _ _ v).after (evolves_setSp s _)

/-- An operation that pops and goes on from there ends as what follows does (R83). -/
theorem ends_pop16_map (s : State) {k : Word × State → State}
    (hk : ∀ (w : Word) (t : State), t.Evolves .lr (k (w, t))) : Ends .lr s (s.pop16.map k) := by
  unfold State.pop16
  split
  · exact raisedOn_invalidStackAccess _ _
  · exact (evolves_setSp s _).trans (hk _ _)

theorem ends_setR8 (s : State) (o : Operand8) (v : Byte) : Ends .lr s (s.setR8 o v) := by
  cases o with
  | reg r => exact evolves_setReg s r v
  | atHl => exact ends_lrWrite s s.hl v

/-! ## Operations do not read the inert part -/

/-! ### Variant C8 -/

theorem c8Write_withInert (s o : State) (a : Nat) (vs : List Byte) :
    (s.withInert .c8 o).c8Write a vs = (s.c8Write a vs).map (·.withInert .c8 o) := by
  have hfails : ∀ k, (s.withInert .c8 o).c8WriteFails k = s.c8WriteFails k := fun _ => rfl
  simp only [State.c8Write, hfails]
  split <;> rfl

theorem push_withInert (s o : State) (v : Word) :
    (s.withInert .c8 o).push v = (s.push v).map (·.withInert .c8 o) := by
  by_cases h : s.c8.sp.val < 16
  · rw [(push_eq s v).1 h]
    exact (push_eq (s.withInert .c8 o) v).1 h
  · have h16 : s.c8.sp.val = 16 := by omega
    rw [(push_eq s v).2 h16]
    exact (push_eq (s.withInert .c8 o) v).2 h16

theorem pop_map_withInert (s o : State) :
    ((s.withInert .c8 o).pop.map fun p => p.2.setC8Pc p.1) =
      (s.pop.map fun p => p.2.setC8Pc p.1).map (·.withInert .c8 o) := by
  rcases Nat.eq_zero_or_pos s.c8.sp.val with h | h
  · rw [(pop_eq s).2 h, (pop_eq (s.withInert .c8 o)).2 h]
    rfl
  · rw [(pop_eq s).1 h, (pop_eq (s.withInert .c8 o)).1 h]
    rfl

theorem skipIf_withInert (s o : State) (c : Bool) :
    (s.withInert .c8 o).skipIf c = (s.skipIf c).withInert .c8 o := by
  cases c <;> rfl

theorem loadRegs_withInert (vs : List Byte) (s o : State) (k : Nat) :
    loadRegs (s.withInert .c8 o) k vs = (loadRegs s k vs).withInert .c8 o := by
  induction vs generalizing s k with
  | nil => rfl
  | cons v vs ih =>
    rw [loadRegs, loadRegs, ← ih]
    split <;> rfl

/-! ### Variant LR -/

theorem setReg_withInert (s o : State) (r : Reg8) (v : Byte) :
    (s.withInert .lr o).setReg r v = (s.setReg r v).withInert .lr o := by
  cases r <;> rfl

theorem lrWrite_withInert (s o : State) (a : Word) (v : Byte) :
    (s.withInert .lr o).lrWrite a v = (s.lrWrite a v).map (·.withInert .lr o) := by
  cases h : s.readOnlyAt a.toNat with
  | false => rw [(lrWrite_eq s a v).1 h]; exact (lrWrite_eq (s.withInert .lr o) a v).1 h
  | true => rw [(lrWrite_eq s a v).2 h]; exact (lrWrite_eq (s.withInert .lr o) a v).2 h

theorem lrWrite16_withInert (s o : State) (a v : Word) :
    (s.withInert .lr o).lrWrite16 a v = (s.lrWrite16 a v).map (·.withInert .lr o) := by
  simp only [State.lrWrite16, lrWrite_withInert]
  cases s.lrWrite a (v.extractLsb' 0 8) with
  | ok t => exact lrWrite_withInert t o _ _
  | error f => rfl

theorem push16_withInert (s o : State) (v : Word) :
    (s.withInert .lr o).push16 v = (s.push16 v).map (·.withInert .lr o) := by
  unfold State.push16
  rw [apply_ite (Except.map _)]
  exact if_congr Iff.rfl rfl (lrWrite16_withInert (s.setSp _) o _ v)

/-- What follows a pop sees the popped word and the state after it (R83). -/
theorem pop16_map_withInert (s o : State) {k : Word × State → State}
    (hk : ∀ w t, k (w, State.withInert t .lr o) = (k (w, t)).withInert .lr o) :
    (s.withInert .lr o).pop16.map k = (s.pop16.map k).map (·.withInert .lr o) := by
  unfold State.pop16
  rw [apply_ite (Except.map k), apply_ite (Except.map k), apply_ite (Except.map _)]
  exact if_congr Iff.rfl rfl (congrArg Except.ok (hk _ (s.setSp _)))

theorem setPair_withInert (s o : State) (p : Pair) (w : Word) :
    (s.withInert .lr o).setPair p w = (s.setPair p w).withInert .lr o := by
  cases p <;> rfl

theorem setStackPair_withInert (s o : State) (p : StackPair) (w : Word) :
    (s.withInert .lr o).setStackPair p w = (s.setStackPair p w).withInert .lr o := by
  cases p <;> rfl

theorem setR8_withInert (s o : State) (x : Operand8) (v : Byte) :
    (s.withInert .lr o).setR8 x v = (s.setR8 x v).map (·.withInert .lr o) := by
  cases x with
  | reg r => exact congrArg Except.ok (setReg_withInert s o r v)
  | atHl => exact lrWrite_withInert s o s.hl v

/-- An operation goes on without reading the inert part where its continuation does. -/
theorem map_withInert {sys : System} {o : State} {r r' : Except Failure State} {k k' : State → State}
    (hr : r' = r.map (·.withInert sys o)) (hk : ∀ t, k' (State.withInert t sys o) = (k t).withInert sys o) :
    r'.map k' = (r.map k).map (·.withInert sys o) := by
  subst hr
  cases r with
  | ok t => exact congrArg Except.ok (hk t)
  | error f => rfl

/-- What follows a read that is the same in both views. -/
theorem map_read_withInert {α : Type} {sys : System} {o : State} (r : Except Failure α) {k k' : α → State}
    (hk : ∀ a, k' a = (k a).withInert sys o) : r.map k' = (r.map k).map (·.withInert sys o) := by
  cases r with
  | ok a => exact congrArg Except.ok (hk a)
  | error f => rfl

/-! ## Actions of one variant -/

/-- The action answers a next state that `s` evolves to, and started with another inert part it answers the same
state with that inert part: it neither reads nor writes it. -/
def Within (sys : System) (act : State → Out) (s : State) : Prop :=
  ∃ t, act s = .next t ∧ s.Evolves sys t ∧ ∀ o, act (s.withInert sys o) = .next (t.withInert sys o)

/-- An instruction ends (R137, R138) within its variant where its operation does, after the pc advance. -/
theorem within_finish {sys : System} {s : State} {adv : State → State} {op : State → Except Failure State}
    (n : Nat) (hadv : s.Evolves sys (adv s))
    (hblind : ∀ o, op (adv (s.withInert sys o)) = (op (adv s)).map (·.withInert sys o))
    (hends : Ends sys (adv s) (op (adv s))) : Within sys (fun s => finish s n (op (adv s))) s := by
  have hends := hends.after hadv
  unfold Within
  simp only [hblind]
  cases h : op (adv s) with
  | ok t =>
    rw [h] at hends
    exact ⟨_, rfl, hends.trans (evolves_respond sys t _), fun o => rfl⟩
  | error f =>
    rw [h] at hends
    exact ⟨_, rfl, evolves_crash s hends, fun o => rfl⟩

theorem within_runC8 {op : State → Except Failure State}
    (hblind : ∀ s o, op (State.withInert s .c8 o) = (op s).map (·.withInert .c8 o))
    (hends : ∀ s, Ends .c8 s (op s)) (s : State) : Within .c8 (runC8 op) s :=
  within_finish 1 ⟨rfl, rfl, rfl, fun _ h => h⟩ (hblind s.advanceC8) (hends _)

theorem within_runLr {len cycles : Nat} {op : State → Except Failure State}
    (hblind : ∀ s o, op (State.withInert s .lr o) = (op s).map (·.withInert .lr o))
    (hends : ∀ s, Ends .lr s (op s)) (s : State) : Within .lr (runLr len cycles op) s :=
  within_finish cycles ⟨rfl, rfl, rfl, fun _ h => h⟩ (hblind (s.advanceLr len)) (hends _)

/-- A choice by what both views of the machine show alike. -/
theorem Within.ite {sys : System} {c : State → Bool} {a b : State → Out} {s : State}
    (hc : ∀ o, c (s.withInert sys o) = c s) (ha : c s = true → Within sys a s)
    (hb : c s = false → Within sys b s) : Within sys (fun s => if c s then a s else b s) s := by
  unfold Within
  simp only [hc]
  cases h : c s with
  | true => exact ha h
  | false => exact hb h

theorem within_runLrIf {cc : Cond} {len taken notTaken : Nat} {op : State → Except Failure State}
    (hblind : ∀ s o, op (State.withInert s .lr o) = (op s).map (·.withInert .lr o))
    (hends : ∀ s, Ends .lr s (op s)) (s : State) : Within .lr (runLrIf cc len taken notTaken op) s :=
  Within.ite (c := (·.cond cc)) (fun o => by cases cc <;> rfl) (fun _ => within_runLr hblind hends s)
    fun _ => within_runLr (op := .ok) (fun _ _ => rfl) (State.Evolves.refl .lr) s

/-! ## Instructions of variant C8 -/

theorem ends_push_setC8Pc (s : State) (v w : Word) :
    Ends .c8 s ((s.push v).map (·.setC8Pc w)) := by
  unfold State.push
  split
  · exact ⟨rfl, rfl, rfl, fun _ h => h⟩
  · exact raisedOn_invalidStackAccess _ _

theorem evolves_loadRegs (vs : List Byte) (s : State) (k : Nat) : s.Evolves .c8 (loadRegs s k vs) := by
  induction vs generalizing s k with
  | nil => exact .refl _ _
  | cons v vs ih =>
    refine .trans ?_ (ih _ _)
    split
    · exact evolves_setV _ _ _
    · exact .refl _ _

/-- What follows a read of variant C8 evolves the state, where the read is not refused (R72). -/
theorem ends_c8Read_map (s : State) (a n : Nat) {k : List Byte → State}
    (hk : ∀ vs, s.Evolves .c8 (k vs)) : Ends .c8 s ((s.c8Read a n).map k) := by
  cases h : s.c8Read a n with
  | ok vs => exact hk vs
  | error f => exact c8Read_error h

/-- What follows a look at a key evolves the state, where the register names a key (R158). -/
theorem ends_keyHeld_map (s : State) (x : VReg) {k : Bool → State}
    (hk : ∀ b, s.Evolves .c8 (k b)) : Ends .c8 s ((s.keyHeld x).map k) := by
  unfold State.keyHeld
  split
  · exact hk _
  · exact raisedOn_invalidOpcodeUsage _

theorem evolves_skipIf (s : State) (c : Bool) : s.Evolves .c8 (s.skipIf c) := by
  cases c <;> exact ⟨rfl, rfl, rfl, fun _ h => h⟩

theorem ends_pop_setC8Pc (s : State) : Ends .c8 s (s.pop.map fun p => p.2.setC8Pc p.1) := by
  unfold State.pop
  split
  · exact raisedOn_invalidStackAccess _ _
  · exact ⟨rfl, rfl, rfl, fun _ h => h⟩

/-- Every instruction of variant C8 stays within it: most write registers, the framebuffer or the pc only. -/
theorem within_exec_c8 (i : Instr) (hi : i.system = .c8) (s : State) : Within .c8 (exec i) s := by
  unfold exec
  cases i with
  | c8LdImm | c8AddImm | c8LdReg | c8Or | c8And | c8Xor | c8LdVxDt | c8AddReg | c8Sub | c8Subn | c8Shr | c8Shl
  | c8Rnd | c8LdI | c8AddI | c8Jp | c8JpV0 | c8Cls | c8LdDtVx | c8LdStVx =>
    refine within_runC8 (fun t o => ?_) (fun t => ?_) s
    · rfl
    · exact ⟨rfl, rfl, rfl, fun _ h => h⟩
  | c8SeImm | c8SneImm | c8SeReg | c8SneReg =>
    refine within_runC8 (fun t o => ?_) (fun t => ?_) s
    · exact congrArg Except.ok (skipIf_withInert t o _)
    · exact evolves_skipIf t _
  | c8Skp x | c8Sknp x =>
    refine within_runC8 (fun t o => ?_) (fun t => ?_) s
    · exact map_read_withInert (t.keyHeld x) fun b => skipIf_withInert t o _
    · exact ends_keyHeld_map t x fun b => evolves_skipIf t _
  | c8Call nnn =>
    refine within_runC8 (fun t o => ?_) (fun t => ?_) s
    · exact map_withInert (push_withInert t o t.c8.pc) fun u => rfl
    · exact ends_push_setC8Pc t _ _
  | c8Ret => exact within_runC8 pop_map_withInert ends_pop_setC8Pc s
  | c8Sys nnn => exact ⟨_, rfl, evolves_crash s (raisedOn_unrecognizedOpcode _ _ _), fun o => rfl⟩
  | c8LdVxK x =>
    refine within_runC8 (fun t o => ?_) (fun t => ?_) s
    · rfl
    · exact (evolves_setWaitReg t x).trans (evolves_setStatus_halted .c8 _)
  | c8LdF x =>
    refine within_runC8 (fun t o => ?_) (fun t => ?_) s
    · rw [apply_ite (Except.map _)]
      rfl
    · split
      · exact raisedOn_invalidOpcodeUsage _
      · exact ⟨rfl, rfl, rfl, fun _ h => h⟩
  | c8LdB | c8StoreRegs =>
    refine within_runC8 (fun t o => ?_) (fun t => ?_) s
    · exact c8Write_withInert t o _ _
    · exact ends_c8Write t _ _
  | c8Drw x y n =>
    refine within_runC8 (fun t o => ?_) (fun t => ?_) s
    · exact map_read_withInert (t.c8Read t.c8.i.toNat n.val) fun rows => rfl
    · exact ends_c8Read_map t _ _ fun rows => ⟨rfl, rfl, rfl, fun _ h => h⟩
  | c8LoadRegs x =>
    refine within_runC8 (fun t o => ?_) (fun t => ?_) s
    · exact map_read_withInert (t.c8Read t.c8.i.toNat (x.val + 1)) fun vs => loadRegs_withInert vs t o 0
    · exact ends_c8Read_map t _ _ fun vs => evolves_loadRegs vs t 0
  | _ => cases hi

/-! ## Instructions of variant LR -/

theorem r8_withInert (s o : State) (x : Operand8) : (s.withInert .lr o).r8 x = s.r8 x := by
  cases x <;> rfl

/-- Replacing an operand and writing the flags (R274, R275). -/
theorem within_modify8 {len cycles : Nat} (f : Byte → Flags → Byte × Flags) (x : Operand8) (s : State) :
    Within .lr (runLr len cycles (modify8 f x)) s := by
  refine within_runLr (fun t o => ?_) (fun t => ?_) s
  · unfold modify8
    rw [r8_withInert]
    exact map_withInert (setR8_withInert t o x _) fun u => rfl
  · exact (ends_setR8 t x _).map fun u => evolves_setFlags u _

/-- Rotating or shifting an operand and writing the flags (R314 to R321). -/
theorem within_rotate8 {len cycles : Nat} (rot : Byte → Bool → Byte × Bool) (x : Operand8) (s : State) :
    Within .lr (runLr len cycles (rotate8 rot x)) s := by
  refine within_runLr (fun t o => ?_) (fun t => ?_) s
  · unfold rotate8
    rw [r8_withInert]
    exact map_withInert (setR8_withInert t o x _) fun u => rfl
  · exact (ends_setR8 t x _).map fun u => evolves_setFlags u _

/-- Replacing an operand by a function of it (R323, R324). -/
theorem within_setR8 {len cycles : Nat} (g : Byte → Byte) (x : Operand8) (s : State) :
    Within .lr (runLr len cycles fun t => t.setR8 x (g (t.r8 x))) s := by
  refine within_runLr (fun t o => ?_) (fun t => ends_setR8 t x _) s
  rw [r8_withInert]
  exact setR8_withInert t o x _

theorem within_resetBit8 {len cycles : Nat} (b : Fin 8) (x : Operand8) (s : State) :
    Within .lr (runLr len cycles (resetBit8 b x)) s :=
  within_setR8 (· &&& ~~~(1#8 <<< b.val)) x s

theorem within_setBit8 {len cycles : Nat} (b : Fin 8) (x : Operand8) (s : State) :
    Within .lr (runLr len cycles (setBit8 b x)) s :=
  within_setR8 (· ||| (1#8 <<< b.val)) x s

theorem within_testBit8 {len cycles : Nat} (b : Fin 8) (x : Operand8) (s : State) :
    Within .lr (runLr len cycles (testBit8 b x)) s := by
  refine within_runLr (fun t o => ?_) (fun t => ?_) s
  · unfold testBit8
    rw [r8_withInert]
    rfl
  · exact evolves_setFlags t _

/-- Rotating A and writing the flags (R310 to R313). -/
theorem within_rotateAcc {len cycles : Nat} (rot : Byte → Bool → Byte × Bool) (s : State) :
    Within .lr (runLr len cycles (rotateAcc rot)) s := by
  refine within_runLr (fun t o => ?_) (fun t => ?_) s
  · rfl
  · exact evolves_setAcc t _

theorem callTo_withInert (s o : State) (w : Word) :
    (s.withInert .lr o).callTo w = (s.callTo w).map (·.withInert .lr o) :=
  map_withInert (push16_withInert s o s.lr.pc) fun _ => rfl

theorem ends_callTo (s : State) (w : Word) : Ends .lr s (s.callTo w) :=
  (ends_push16 s _).map fun t => evolves_setLrPc t w

theorem returnTo_withInert (s o : State) :
    (s.withInert .lr o).returnTo = s.returnTo.map (·.withInert .lr o) :=
  pop16_map_withInert s o fun _ _ => rfl

theorem ends_returnTo (s : State) : Ends .lr s s.returnTo :=
  ends_pop16_map s fun w t => evolves_setLrPc t w

/-- The row pair of the prefixed map that a code selects stays within variant LR where both rows do. -/
theorem within_onCode {zzz : Nat} {f : Reg8 → State → Out} {m : State → Out} (s : State)
    (hf : ∀ r, Within .lr (f r) s) (hm : Within .lr m s) : Within .lr (onCode zzz f m) s := by
  unfold onCode
  cases regOfCode zzz with
  | some r => exact hf r
  | none => exact hm

/-- The instruction that 0xCB and its next byte select stays within variant LR (R112). -/
theorem within_prefixCb (b1 : Byte) (s : State) : Within .lr (execLrPrefixCb b1) s := by
  unfold execLrPrefixCb
  dsimp only
  generalize fieldXx b1 = xx
  match xx with
  | 0 =>
    generalize (fieldYyy b1).val = yyy
    match yyy with
    | 0 | 1 | 2 | 3 | 4 | 5 | 6 | _ + 7 =>
      exact within_onCode s (fun r => within_rotate8 _ (.reg r) s) (within_rotate8 _ .atHl s)
  | 1 => exact within_onCode s (fun r => within_testBit8 _ (.reg r) s) (within_testBit8 _ .atHl s)
  | 2 => exact within_onCode s (fun r => within_resetBit8 _ (.reg r) s) (within_resetBit8 _ .atHl s)
  | _ + 3 => exact within_onCode s (fun r => within_setBit8 _ (.reg r) s) (within_setBit8 _ .atHl s)

/-- Every instruction of variant LR stays within it. -/
theorem within_exec_lr (i : Instr) (hi : i.system = .lr) (s : State) : Within .lr (exec i) s := by
  unfold exec
  cases i with
  | lrAddR | lrAddM | lrAddN | lrAdcR | lrAdcM | lrAdcN | lrSubR | lrSubM | lrSubN | lrSbcR | lrSbcM | lrSbcN
  | lrAndR | lrAndM | lrAndN | lrXorR | lrXorM | lrXorN | lrOrR | lrOrM | lrOrN | lrDaa | lrCpl =>
    refine within_runLr (fun t o => ?_) (fun t => ?_) s
    · rfl
    · exact evolves_setAcc t _
  | lrCpR | lrCpM | lrCpN | lrScf | lrCcf =>
    refine within_runLr (fun t o => ?_) (fun t => ?_) s
    · rfl
    · exact evolves_setFlags t _
  | lrLdRR | lrLdRM | lrLdRN =>
    refine within_runLr (fun t o => ?_) (fun t => ?_) s
    · exact congrArg Except.ok (setReg_withInert t o _ _)
    · exact evolves_setReg t _ _
  | lrLdABc | lrLdADe | lrLdAA16 | lrLdhAA8 | lrLdAC =>
    refine within_runLr (fun t o => ?_) (fun t => ?_) s
    · rfl
    · exact evolves_setReg t .a _
  | lrLdAHli | lrLdAHld =>
    refine within_runLr (fun t o => ?_) (fun t => ?_) s
    · rfl
    · exact (evolves_setReg t .a _).trans (evolves_setHl _ _)
  | lrLdMR | lrLdMN | lrLdBcA | lrLdDeA | lrLdA16A | lrLdhA8A | lrLdCA =>
    refine within_runLr (fun t o => ?_) (fun t => ?_) s
    · exact lrWrite_withInert t o _ _
    · exact ends_lrWrite t _ _
  | lrLdHliA | lrLdHldA =>
    refine within_runLr (fun t o => ?_) (fun t => ?_) s
    · exact map_withInert (lrWrite_withInert t o t.hl t.lr.a) fun u => rfl
    · exact (ends_lrWrite t _ _).map fun u => evolves_setHl u _
  | lrLdPairN | lrIncPair | lrDecPair =>
    refine within_runLr (fun t o => ?_) (fun t => ?_) s
    · exact congrArg Except.ok (setPair_withInert t o _ _)
    · exact evolves_setPair t _ _
  | lrLdA16Sp a16 => exact within_runLr (fun t o => lrWrite16_withInert t o a16 _) (fun t => ends_lrWrite16 t a16 _) s
  | lrLdHlSp | lrAddHl =>
    refine within_runLr (fun t o => ?_) (fun t => ?_) s
    · rfl
    · exact (evolves_setHl t _).trans (evolves_setFlags _ _)
  | lrAddSp =>
    refine within_runLr (fun t o => ?_) (fun t => ?_) s
    · rfl
    · exact (evolves_setSp t _).trans (evolves_setFlags _ _)
  | lrPush p => exact within_runLr (fun t o => push16_withInert t o (t.stackPair p)) (fun t => ends_push16 t _) s
  | lrPop p =>
    exact within_runLr (fun t o => pop16_map_withInert t o fun w u => setStackPair_withInert u o p w)
      (fun t => ends_pop16_map t fun w u => evolves_setStackPair u p w) s
  | lrPopAf =>
    exact within_runLr (fun t o => pop16_map_withInert t o fun w u => setStackPair_withInert u o .af w)
      (fun t => ends_pop16_map t fun w u => evolves_setStackPair u .af w) s
  | lrIncR | lrIncM | lrDecR | lrDecM => exact within_modify8 _ _ s
  | lrRlca | lrRrca | lrRla | lrRra => exact within_rotateAcc _ s
  | lrRlcR | lrRlcM | lrRrcR | lrRrcM | lrRlR | lrRlM | lrRrR | lrRrM | lrSlaR | lrSlaM | lrSraR | lrSraM
  | lrSwapR | lrSwapM | lrSrlR | lrSrlM => exact within_rotate8 _ _ s
  | lrBitR | lrBitM => exact within_testBit8 _ _ s
  | lrResR | lrResM => exact within_resetBit8 _ _ s
  | lrSetR | lrSetM => exact within_setBit8 _ _ s
  | lrPrefixCb b1 => exact within_prefixCb b1 s
  | lrNop | lrJp | lrJpHl | lrJr | lrLdSpHl | lrDi | lrEi =>
    refine within_runLr (fun t o => ?_) (fun t => ?_) s
    · rfl
    · exact ⟨rfl, rfl, rfl, fun _ h => h⟩
  | lrJpCc | lrJrCc =>
    refine within_runLrIf (fun t o => ?_) (fun t => ?_) s
    · rfl
    · exact evolves_setLrPc t _
  | lrCall | lrRst => exact within_runLr (fun t o => callTo_withInert t o _) (fun t => ends_callTo t _) s
  | lrCallCc => exact within_runLrIf (fun t o => callTo_withInert t o _) (fun t => ends_callTo t _) s
  | lrRet => exact within_runLr returnTo_withInert ends_returnTo s
  | lrRetCc => exact within_runLrIf returnTo_withInert ends_returnTo s
  | lrReti =>
    refine within_runLr (fun t o => ?_) (fun t => ?_) s
    · exact pop16_map_withInert t o fun _ _ => rfl
    · exact ends_pop16_map t fun w u => (evolves_setLrPc u w).trans (evolves_setIme _ true)
  | lrHalt =>
    refine within_runLr (fun t o => ?_) (fun t => ?_) s
    · rw [apply_ite Except.ok, apply_ite Except.ok, apply_ite (Except.map _)]
      rfl
    · split
      · exact ⟨rfl, rfl, rfl, fun _ h => h⟩
      · exact evolves_setStatus_halted .lr t
  | lrStop =>
    refine within_runLr (fun t o => ?_) (fun t => ?_) s
    · rfl
    · exact evolves_setStatus_stopped t
  | _ => cases hi

/-- Every instruction stays within its variant. -/
theorem within_exec (i : Instr) (s : State) : Within i.system (exec i) s := by
  cases hi : i.system with
  | c8 => exact within_exec_c8 i hi s
  | lr => exact within_exec_lr i hi s

/-! ## The phases of a step -/

theorem Within.of_eq {sys : System} {act act' : State → Out} {s : State} (h : Within sys act s)
    (hs : act' s = act s) (ho : ∀ o, act' (s.withInert sys o) = act (s.withInert sys o)) : Within sys act' s := by
  obtain ⟨t, ht, he, hi⟩ := h
  exact ⟨t, hs.trans ht, he, fun o => (ho o).trans (hi o)⟩

/-- An action after an update that does not read the inert part. -/
theorem Within.after {sys : System} {act : State → Out} {upd : State → State} {s : State}
    (hu : s.Evolves sys (upd s)) (hb : ∀ o, upd (s.withInert sys o) = (upd s).withInert sys o)
    (h : Within sys act (upd s)) : Within sys (fun s => act (upd s)) s := by
  obtain ⟨t, ht, he, hi⟩ := h
  exact ⟨t, ht, hu.trans he, fun o => (congrArg act (hb o)).trans (hi o)⟩

theorem within_next {sys : System} {upd : State → State} {s : State} (hu : s.Evolves sys (upd s))
    (hb : ∀ o, upd (s.withInert sys o) = (upd s).withInert sys o) : Within sys (fun s => .next (upd s)) s :=
  ⟨upd s, rfl, hu, fun o => congrArg _ (hb o)⟩

/-! ### The wake check (P2) -/

theorem evolves_wakeC8 (s : State) : s.Evolves .c8 s.wakeC8 := by
  unfold State.wakeC8
  split
  · split
    · exact (evolves_setV s _ _).trans (evolves_setStatus_running .c8 _)
    · exact .refl .c8 s
  · exact .refl .c8 s

theorem evolves_wakeLr (s : State) : s.Evolves .lr s.wakeLr := by
  unfold State.wakeLr
  split
  · exact evolves_setStatus_running .lr s
  · exact .refl .lr s

theorem wakeC8_withInert (s o : State) : (s.withInert .c8 o).wakeC8 = s.wakeC8.withInert .c8 o := by
  have hst : (s.withInert .c8 o).status = s.status := rfl
  have hk : (s.withInert .c8 o).c8 = s.c8 := rfl
  simp only [State.wakeC8, hst, hk]
  split
  · split <;> rfl
  · rfl

theorem wakeLr_withInert (s o : State) : (s.withInert .lr o).wakeLr = s.wakeLr.withInert .lr o := by
  have hst : (s.withInert .lr o).status = s.status := rfl
  have hp : (s.withInert .lr o).pending = s.pending := rfl
  simp only [State.wakeLr, hst, hp]
  split <;> rfl

section
variable {sys : System} {s : State} (hs : s.config.system = sys)
include hs

theorem evolves_wakeCheck : s.Evolves sys s.wakeCheck := by
  cases sys with
  | c8 => exact (wakeCheck_eq s).1 hs ▸ evolves_wakeC8 s
  | lr => exact (wakeCheck_eq s).2 hs ▸ evolves_wakeLr s

theorem wakeCheck_withInert (o : State) : (s.withInert sys o).wakeCheck = s.wakeCheck.withInert sys o := by
  cases sys with
  | c8 => rw [(wakeCheck_eq s).1 hs, (wakeCheck_eq (s.withInert .c8 o)).1 hs, wakeC8_withInert]
  | lr => rw [(wakeCheck_eq s).2 hs, (wakeCheck_eq (s.withInert .lr o)).2 hs, wakeLr_withInert]

/-! ### The instruction (P5 to P9) -/

theorem fetchBytes_withInert (o : State) : (s.withInert sys o).fetchBytes = s.fetchBytes := by
  have ho : (s.withInert sys o).config.system = sys := hs
  cases sys <;> simp only [State.fetchBytes, hs, ho] <;> rfl

theorem fetchBytes_error {f : Failure} (h : s.fetchBytes = .error f) : RaisedOn sys f := by
  cases sys with
  | c8 =>
    simp only [State.fetchBytes, hs] at h
    exact c8Read_error h
  | lr => simp [State.fetchBytes, hs] at h

theorem commitEi_withInert (o : State) : (s.withInert sys o).commitEi = s.commitEi.withInert sys o := by
  have ho : (s.withInert sys o).config.system = sys := hs
  cases sys with
  | c8 => simp only [commitEi_eq, hs, ho]
  | lr =>
    simp only [commitEi_eq, hs, ho]
    rfl

theorem evolves_commitEi : s.Evolves sys s.commitEi := by
  cases sys <;> simp only [commitEi_eq, hs]
  · exact .refl .c8 s
  · exact ⟨rfl, rfl, rfl, fun _ h => h⟩

theorem pc_withInert (o : State) : (s.withInert sys o).pc = s.pc := by
  have ho : (s.withInert sys o).config.system = sys := hs
  cases sys <;> (simp only [State.pc, hs, ho]; rfl)

end

/-- A fetch that fails ends the step. -/
theorem instructionStep_of_fetchBytes_error {s : State} {f : Failure} (hf : s.fetchBytes = .error f) :
    instructionStep s = .next (s.crash f) := by
  simp only [instructionStep, fetchBytes_commitEi, hf]

/-- Bytes that are no instruction end the step (R104, R113, R141). -/
theorem instructionStep_of_decode_error {s : State} {bytes : List Byte} {e : Reject}
    (hf : s.fetchBytes = .ok bytes) (hd : decode s.config.system bytes = .error e) :
    instructionStep s = .next ((s.recordFetch s.pc bytes).crash (.unrecognizedOpcode s.pc bytes)) := by
  simp only [instructionStep, fetchBytes_commitEi, hf, hd]

/-- The state in which an instruction of the given bytes is carried out: after the phases P5 and P6. -/
def State.fetched (s : State) (bytes : List Byte) : State :=
  s.commitEi.recordFetch s.pc bytes

/-- What a step does with an instruction it has decoded from the given bytes: it is skipped (R136), or carried
out and settled (R137, R138). -/
def performDecoded (i : Instr) (bytes : List Byte) (s : State) : Out :=
  if (s.fetched bytes).skips then .next (skipStep i (s.fetched bytes))
  else settle (s.recordFetch s.pc bytes) (exec i (s.fetched bytes))

theorem instructionStep_of_decode_ok {s : State} {bytes rest : List Byte} {i : Instr}
    (hf : s.fetchBytes = .ok bytes) (hd : decode s.config.system bytes = .ok (i, rest)) :
    instructionStep s = performDecoded i bytes s := by
  simp only [instructionStep, fetchBytes_commitEi, hf, hd]
  rfl

/-- A failure that a state reached from `s` shows is one that `s` can take (R138). -/
theorem State.Evolves.crash {sys : System} {s b t : State} {f : Failure} (hb : s.Evolves sys b)
    (ht : s.Evolves sys t) (hf : t.status = .crashed f) : s.Evolves sys (b.crash f) := by
  refine ⟨hb.config, hb.keys, hb.buttons, fun hs hi => ?_⟩
  obtain ⟨hm, hfl, _⟩ := hb.inv hs hi
  obtain ⟨_, _, hst⟩ := ht.inv hs hi
  refine ⟨hm, hfl, ?_⟩
  simpa [State.StatusWf, hb.config, ht.config, hf] using hst

/-- Discarding the changes of a failed instruction stays within the variant (R138). -/
theorem within_settle {sys : System} {act : State → Out} {base : State → State} {s : State}
    (hbase : s.Evolves sys (base s)) (hb : ∀ o, base (s.withInert sys o) = (base s).withInert sys o)
    (h : Within sys act s) : Within sys (fun s => settle (base s) (act s)) s := by
  obtain ⟨t, ht, he, hi⟩ := h
  unfold Within
  simp only [ht, hi, hb]
  cases hst : t.status with
  | crashed f =>
    have hst' : ∀ o, (t.withInert sys o).status = .crashed f := fun _ => hst
    refine ⟨(base s).crash f, by simp only [settle, hst], hbase.crash he hst, fun o => ?_⟩
    simp only [settle, hst']
    rfl
  | running | halted | stopped =>
    have hst' : ∀ o, (t.withInert sys o).status = t.status := fun _ => rfl
    exact ⟨t, by simp only [settle, hst], he, fun o => by simp only [settle, hst', hst]⟩

section
variable {sys : System} {s : State} (hs : s.config.system = sys)
include hs

theorem recordFetch_pc_withInert (bytes : List Byte) (o : State) :
    (s.withInert sys o).recordFetch (s.withInert sys o).pc bytes = (s.recordFetch s.pc bytes).withInert sys o := by
  rw [pc_withInert hs]
  rfl

theorem fetched_withInert (bytes : List Byte) (o : State) :
    (s.withInert sys o).fetched bytes = (s.fetched bytes).withInert sys o := by
  unfold State.fetched
  rw [pc_withInert hs, commitEi_withInert hs]
  rfl

theorem evolves_fetched (bytes : List Byte) : s.Evolves sys (s.fetched bytes) :=
  (evolves_commitEi hs).trans (evolves_recordFetch sys _ _ _)

theorem skips_withInert (o : State) : (s.withInert sys o).skips = s.skips := by
  have ho : (s.withInert sys o).config.system = sys := hs
  cases sys with
  | c8 => simp only [State.skips, hs, ho]
  | lr =>
    simp only [State.skips, hs, ho]
    rfl

/-- Only a machine of variant LR skips (R136), and the skip writes its pc and `skip_next`. -/
theorem within_skipStep (i : Instr) (hk : s.skips = true) : Within sys (fun s => .next (skipStep i s)) s := by
  cases sys with
  | c8 => simp [State.skips, hs] at hk
  | lr => exact within_next ⟨rfl, rfl, rfl, fun _ h => h⟩ fun _ => rfl

theorem within_performDecoded {i : Instr} (hi : i.system = sys) (bytes : List Byte) :
    Within sys (performDecoded i bytes) s := by
  have hs6 : (s.fetched bytes).config.system = sys := (evolves_fetched hs bytes).config ▸ hs
  have h6 : ∀ act, Within sys act (s.fetched bytes) → Within sys (fun s => act (s.fetched bytes)) s :=
    fun _ => Within.after (upd := (·.fetched bytes)) (evolves_fetched hs bytes) (fetched_withInert hs bytes)
  refine Within.ite (c := fun s => (s.fetched bytes).skips) (fun o => ?_) (fun hk => ?_) fun _ => ?_
  · rw [fetched_withInert hs, skips_withInert hs6]
  · exact h6 _ (within_skipStep hs6 i hk)
  · exact within_settle (evolves_recordFetch sys s _ _) (recordFetch_pc_withInert hs bytes)
      (h6 _ (hi ▸ within_exec i _))

theorem within_instructionStep : Within sys instructionStep s := by
  have hf : ∀ o, (s.withInert sys o).fetchBytes = s.fetchBytes := fetchBytes_withInert hs
  cases h : s.fetchBytes with
  | error f =>
    exact (within_next (upd := (·.crash f)) (evolves_crash s (fetchBytes_error hs h)) fun _ => rfl).of_eq
      (instructionStep_of_fetchBytes_error h) fun o => instructionStep_of_fetchBytes_error ((hf o).trans h)
  | ok bytes =>
    cases hd : decode s.config.system bytes with
    | error e =>
      refine Within.of_eq (act := fun s => .next ((s.recordFetch s.pc bytes).crash (.unrecognizedOpcode s.pc bytes)))
        (within_next ?_ fun o => ?_) (instructionStep_of_decode_error h hd)
        fun o => instructionStep_of_decode_error ((hf o).trans h) hd
      · exact (evolves_recordFetch sys s _ _).trans (evolves_crash _ (raisedOn_unrecognizedOpcode _ _ _))
      · rw [recordFetch_pc_withInert hs, pc_withInert hs]
        rfl
    | ok r =>
      obtain ⟨i, rest⟩ := r
      exact (within_performDecoded hs ((decode_system hd).trans hs) bytes).of_eq (instructionStep_of_decode_ok h hd)
        fun o => instructionStep_of_decode_ok ((hf o).trans h) hd

end

/-! ### The interrupt dispatch (P4) -/

theorem ends_enterInterrupt (s : State) (k : Nat) : Ends .lr s (s.enterInterrupt k) :=
  ((ends_lrWrite _ _ _).after (evolves_setIme s false)).bind fun t =>
    (ends_push16 t _).map fun u => evolves_setLrPc u _

theorem enterInterrupt_withInert (s o : State) (k : Nat) :
    (s.withInert .lr o).enterInterrupt k = (s.enterInterrupt k).map (·.withInert .lr o) := by
  have hw := lrWrite_withInert (s.setIme false) o ifAddr (s.lrRead ifAddr &&& ~~~(1#8 <<< k))
  refine (congrArg (Except.bind · _) hw).trans ?_
  unfold State.enterInterrupt
  cases (s.setIme false).lrWrite ifAddr (s.lrRead ifAddr &&& ~~~(1#8 <<< k)) with
  | ok t => exact map_withInert (push16_withInert t o t.lr.pc) fun _ => rfl
  | error f => rfl

theorem within_takeInterrupt (s : State) : Within .lr State.takeInterrupt s := by
  have hp : ∀ o, (s.withInert .lr o).pendingSources = s.pendingSources := fun _ => rfl
  unfold Within State.takeInterrupt
  simp only [hp]
  cases leastSource s.pendingSources with
  | some k =>
    exact within_finish (adv := id) (op := (·.enterInterrupt k)) 20 (.refl .lr s)
      (fun o => enterInterrupt_withInert s o k) (ends_enterInterrupt s k)
  | none => exact within_finish (adv := id) (op := .ok) 20 (.refl .lr s) (fun _ => rfl) (.refl .lr s)

/-! ### The step -/

section
variable {sys : System} {s : State} (hs : s.config.system = sys)
include hs

theorem dispatches_withInert (o : State) : (s.withInert sys o).dispatches = s.dispatches := by
  have ho : (s.withInert sys o).config.system = sys := hs
  cases sys with
  | c8 => simp only [State.dispatches, hs, ho]
  | lr =>
    simp only [State.dispatches, hs, ho]
    rfl

theorem within_afterWake : Within sys afterWake s := by
  refine Within.ite (c := fun s => isWaiting s.status) (fun _ => rfl) (fun _ => ?_) fun _ => ?_
  · exact within_next (evolves_respond sys s _) fun _ => rfl
  · refine Within.ite (c := State.dispatches) (dispatches_withInert hs) (fun hd => ?_) fun _ =>
      within_instructionStep hs
    cases sys with
    | c8 => simp [State.dispatches, hs] at hd
    | lr => exact within_takeInterrupt s

/-- A step stays within the variant of the machine. -/
theorem within_step : Within sys step s := by
  refine Within.ite (c := fun s => isCrashed s.status) (fun _ => rfl) (fun _ => ?_) fun _ => ?_
  · refine within_next ?_ fun o => ?_
    · unfold crashGate
      split
      · exact evolves_respond sys s _
      · exact .refl sys s
    · have hst : (s.withInert sys o).status = s.status := rfl
      simp only [crashGate, hst]
      split <;> rfl
  · have hw := evolves_wakeCheck hs
    exact (within_afterWake (hw.config ▸ hs)).after hw (wakeCheck_withInert hs)

end

/-! ## The obligations on a step -/

/-- A step evolves the state and leaves its inert part. -/
theorem step_leaves {s t : State} (h : step s = .next t) :
    s.Evolves s.config.system t ∧ t = t.withInert s.config.system s := by
  obtain ⟨u, hu, he, hi⟩ := within_step (s := s) rfl
  cases h.symm.trans hu
  have hself := hi s
  rw [s.withInert_self, h] at hself
  injection hself with hself
  exact ⟨he, hself⟩

/-- What the inert part is, read off. -/
theorem State.inert_fields {s t : State} {sys : System} (h : t = t.withInert sys s) :
    (sys = .c8 → t.lr = s.lr) ∧ (sys = .lr → t.c8 = s.c8 ∧ t.draws = s.draws) := by
  refine ⟨?_, ?_⟩ <;> rintro rfl
  · rw [h]
    rfl
  · rw [h]
    exact ⟨rfl, rfl⟩

/-! ## The invariant under the host's commands -/

/-- The reset state of every configuration meets the invariant (R65). -/
theorem inv_resetOf (config : Configuration) : (State.resetOf config).Inv :=
  ⟨⟨memoryWf_nil _ _, memoryWf_nil _ _⟩, (by decide : 0x0B#8 &&& 0xF0#8 = 0x00#8),
    statusWf_setStatus_running (State.resetOf config)⟩

theorem inv_resetCommand (s : State) : (resetCommand s).Inv :=
  inv_resetOf s.config

/-- An image of at most `IMAGE_MAX` bytes fits in memory from `LOAD_BASE` on (R7, R424). -/
theorem loadBase_add_imageMax_le (sys : System) : loadBase sys + imageMax sys ≤ memSize sys := by
  cases sys <;> decide

theorem inv_placeImage {s : State} {image : List Byte} (hi : s.Inv)
    (hlen : image.length ≤ imageMax s.config.system) : (placeImage s image).Inv := by
  obtain ⟨⟨hc8, hlr⟩, hfl, hst⟩ := hi
  have hfit := (Nat.add_le_add_left hlen _).trans (loadBase_add_imageMax_le s.config.system)
  unfold placeImage
  cases hs : s.config.system with
  | c8 => exact ⟨⟨memoryWf_writeCells image hc8 (hs ▸ hfit), hlr⟩, hfl, hst⟩
  | lr => exact ⟨⟨hc8, memoryWf_writeCells image hlr (hs ▸ hfit)⟩, hfl, hst⟩

theorem inv_loadCommand {s : State} (image : List Byte) (hi : s.Inv) : (loadCommand image s).Inv := by
  unfold loadCommand
  split
  · exact hi
  · next hlen => exact inv_placeImage (inv_resetCommand s) (Nat.le_of_not_lt hlen)

theorem inv_updateTimersCommand {s : State} (n : Nat) (hi : s.Inv) : (updateTimersCommand n s).Inv := by
  unfold updateTimersCommand
  cases hs : s.config.system with
  | c8 => exact (evolves_wakeC8 ((s.setDt _).setSt _)).inv hs hi
  | lr => exact (evolves_wakeLr s).inv hs hi

theorem evolves_requestIrq (s : State) (k : Nat) : s.Evolves .lr (s.requestIrq k) :=
  evolves_lrPoke s ifAddr _

theorem evolves_wakeStopped (s : State) (vec : Vector Bool 8) : s.Evolves .lr (s.wakeStopped vec) := by
  unfold State.wakeStopped
  split
  · exact evolves_setStatus_running .lr s
  · exact .refl .lr s

/-- After the buttons are written, `SET_INPUT` of variant LR evolves the state (R405). -/
theorem evolves_setInputLr (vec : Vector Bool 8) (s : State) : (s.setButtons vec).Evolves .lr (setInputLr vec s) := by
  refine .trans ?_ ((evolves_wakeStopped _ vec).trans (evolves_wakeLr _))
  split
  · exact evolves_requestIrq _ 4
  · exact .refl .lr _

theorem inv_setInputCommand {vec : List Bool} {s t : State} (hi : s.Inv)
    (ht : setInputCommand vec s = .next t) : t.Inv := by
  unfold setInputCommand at ht
  split at ht
  · next hs =>
    split at ht <;> cases ht
    exact (evolves_wakeC8 (s.setKeys _)).inv hs hi
  · next hs =>
    split at ht <;> cases ht
    exact (evolves_setInputLr _ s).inv hs hi

theorem inv_raiseIrqCommand {k : Nat} {s t : State} (hi : s.Inv) (ht : raiseIrqCommand k s = .next t) : t.Inv := by
  unfold raiseIrqCommand at ht
  split at ht
  · cases ht
  · next hs =>
    split at ht <;> cases ht
    exact ((evolves_requestIrq s k).trans (evolves_wakeLr _)).inv hs hi

theorem inv_readFramebufferCommand {s t : State} (hi : s.Inv) (ht : readFramebufferCommand s = .next t) :
    t.Inv := by
  unfold readFramebufferCommand at ht
  split at ht <;> cases ht
  exact hi

end Sys2Proof.Machine

section
open Sys2Proof Sys2Proof.Machine

/-- Settles O13: a step commutes with exchanging the inert part of the state. -/
theorem otherVariantInvisible : Obligations.OtherVariantInvisible := by
  intro s t s' hst hstep
  obtain ⟨u, hu, he, hi⟩ := within_step (s := s) rfl
  cases hstep.symm.trans hu
  refine ⟨s'.withInert s.config.system t, (congrArg step hst.eq_withInert).trans (hi t), ?_⟩
  obtain ⟨-, -, -, -, hdraws, -⟩ := hst
  obtain ⟨-, hlr⟩ := State.inert_fields (step_leaves hstep).2
  exact State.sameInstance_withInert (congrArg Configuration.system he.config) fun h =>
    hdraws.symm.trans (hlr h).2.symm

/-- Settles O12: a step evolves the state, which keeps configuration and inputs, and leaves its inert part. -/
theorem stepStaysInVariant : Obligations.StepStaysInVariant := by
  intro s t hstep
  obtain ⟨he, hinert⟩ := step_leaves hstep
  obtain ⟨hc8, hlr⟩ := State.inert_fields hinert
  exact ⟨he.config, he.keys, he.buttons, hc8, hlr⟩

/-- Settles O60: command by command; a step and a wake evolve the state, an image is placed within memory. -/
theorem commandsKeepInv : Obligations.CommandsKeepInv := by
  intro c s t hi ht
  cases c with
  | reset => cases ht; exact inv_resetCommand s
  | load image => cases ht; exact inv_loadCommand image hi
  | step => exact (step_leaves ht).1.inv rfl hi
  | updateTimers n => cases ht; exact inv_updateTimersCommand n hi
  | setInput vec => exact inv_setInputCommand hi ht
  | raiseIrq k => exact inv_raiseIrqCommand hi ht
  | readFramebuffer => exact inv_readFramebufferCommand hi ht
  | snapshot => cases ht; exact hi

end

/-! Proofs of the statements on state: the invariant and the reset values, the results of variant C8 that go
through VF, the pixels of a sprite, which instruction writes which special state, and the status. -/

namespace Sys2Proof.Machine

/-! ## The reset contents of memory -/

/-- Outside the font memory of variant C8 reads 0 at reset (R65, R421). -/
theorem unlistedC8_of_outside_font {a : Nat} (h : a < 0x050 ∨ 0x09F < a) : unlistedC8 a = 0x00#8 := by
  have hlen : fontBytes.length = 80 := rfl
  unfold unlistedC8 fontBase
  split
  · rfl
  · exact List.getD_eq_default _ _ (by omega)

/-- After `RESET` memory lists nothing (R421). -/
theorem c8Byte_resetCommand (s : State) (a : Nat) : (resetCommand s).c8Byte a = unlistedC8 a := rfl

/-- But for the count of draws `RESET` leaves what a fresh construction gives (R420, log 18). -/
theorem frame_resetCommand (s : State) : (State.resetOf s.config).Frame [.draws] (resetCommand s) := by
  intro p hp
  cases p with
  | draws => exact absurd (List.mem_singleton_self _) hp
  | _ => rfl

/-! ## Results with a flag in VF (R22, R176) -/

@[simp] theorem vx_respond (s : State) (r : Response) (x : VReg) : (s.respond r).vx x = s.vx x := rfl

/-- VF reads as written. -/
theorem vx_setV_vf (s : State) (v : Byte) : (s.setV vf v).vx 15 = v :=
  (State.vx_setV s vf 15 v).trans (if_pos rfl)

theorem bitByte_toNat (b : Bool) : (bitByte b).toNat = b.toNat := by
  cases b <;> rfl

/-- An instruction that ends with a result and its flag written, VF last, writes these and the pc. -/
theorem writesVF_of_setVWithFlag {i : Instr} {s : State} {x : VReg} {r : Byte × Bool}
    (h : exec i s = .next ((s.advanceC8.setVWithFlag x r).respond (.cycles 1))) :
    WritesVF i s x r.1.toNat r.2 := by
  refine ⟨_, h, ⟨rfl, rfl⟩, ?_, fun hx => ?_, ?_⟩
  · rw [vx_respond, State.setVWithFlag, vx_setV_vf, bitByte_toNat]
  · have hvf : x ≠ vf := hx
    simp [State.setVWithFlag, hvf]
  · exact ((frame_advanceC8 s).trans (frame_setVWithFlag _ x r)).trans (frame_respond _ _)

theorem c8Add_toNat (a b : Byte) : (c8Add a b).1.toNat = (a.toNat + b.toNat) % 256 :=
  BitVec.toNat_ofNat _ _

theorem c8Sub_toNat (a b : Byte) : (c8Sub a b).1.toNat = (a.toNat + 256 - b.toNat) % 256 := by
  rw [c8Sub, BitVec.toNat_sub]
  have := b.isLt
  omega

theorem c8Shr_toNat (a : Byte) : (c8Shr a).1.toNat = a.toNat / 2 :=
  BitVec.toNat_ushiftRight a 1 |>.trans (Nat.shiftRight_eq_div_pow _ 1)

theorem c8Shr_flag (a : Byte) : (c8Shr a).2 = decide (a.toNat % 2 = 1) := by
  simp [c8Shr, BitVec.getLsbD, Nat.testBit_zero]

theorem c8Shl_toNat (a : Byte) : (c8Shl a).1.toNat = a.toNat * 2 % 256 := by
  simp [c8Shl, BitVec.toNat_shiftLeft, Nat.shiftLeft_eq]

theorem c8Shl_flag (a : Byte) : (c8Shl a).2 = decide (a.toNat ≥ 128) := by
  rw [c8Shl, ← BitVec.msb_eq_getLsbD_last a, BitVec.msb_eq_decide]

end Sys2Proof.Machine

section
open Sys2Proof Sys2Proof.Machine

/-- Settles O6: a step evolves the state, and what evolves keeps the invariant. -/
theorem stepKeepsInv : Obligations.StepKeepsInv :=
  fun _ _ hi hstep => (step_leaves hstep).1.inv rfl hi

/-- Settles O7: nothing is listed in memory, `F` is 0x0B and the status is `Running`. -/
theorem resetHasInv : Obligations.ResetHasInv :=
  ⟨inv_resetOf _, inv_resetOf⟩

/-- Settles O26: the reset tuples hold the listed values, and memory lists nothing. -/
theorem resetValues : Obligations.ResetValues := by
  intro s
  refine ⟨resetCommand s, rfl, rfl, rfl, rfl, rfl, fun x => ?_, rfl, rfl, rfl, fun k => ?_, rfl, rfl,
    fun y x => ?_, fun k => ?_, rfl, fun a ha => unlistedC8_of_outside_font ha, ?_, rfl, rfl,
    (by decide : (0x00#8 ++ 0x13#8 : Word) = 0x0013#16), (by decide : (0x00#8 ++ 0xD8#8 : Word) = 0x00D8#16),
    (by decide : (0x01#8 ++ 0x4D#8 : Word) = 0x014D#16), rfl, rfl, rfl, rfl, rfl, fun a => rfl, fun k => ?_,
    frame_resetCommand s, rfl⟩
  · exact Vector.getElem_replicate x.isLt
  · exact Vector.getElem_replicate k.isLt
  · simp [resetCommand, State.resetOf, C8State.reset]
  · exact Vector.getElem_replicate k.isLt
  · simp only [c8Byte_resetCommand]
    decide
  · exact Vector.getElem_replicate k.isLt

/-- Settles O35: each writes its result, then its flag to VF. -/
theorem c8Arithmetic : Obligations.C8Arithmetic := by
  intro x y s
  refine ⟨?_, ?_, ?_, ?_, ?_⟩
  · exact c8Add_toNat (s.vx x) (s.vx y) ▸ writesVF_of_setVWithFlag rfl
  · exact c8Sub_toNat (s.vx x) (s.vx y) ▸ writesVF_of_setVWithFlag rfl
  · exact c8Sub_toNat (s.vx y) (s.vx x) ▸ writesVF_of_setVWithFlag rfl
  · exact c8Shr_toNat (s.vx x) ▸ c8Shr_flag (s.vx x) ▸ writesVF_of_setVWithFlag rfl
  · exact c8Shl_toNat (s.vx x) ▸ c8Shl_flag (s.vx x) ▸ writesVF_of_setVWithFlag rfl

end

namespace Sys2Proof.Machine

/-! ## Drawing a sprite (R201)

A drawing is described by the set of pixels it turns over. Each pixel of a sprite lies in one row and one column
of it, so drawings of different pixels, columns and rows turn over disjoint sets. -/

/-- A set of pixels. -/
abbrev Pixels := Fin 32 → Fin 64 → Bool

/-- The drawing exclusive-ors the framebuffer with the pixels of `d`, and reports a collision exactly where one
of them was on. -/
def Draws (d : Pixels) (draw : Framebuffer × Bool → Framebuffer × Bool) : Prop :=
  ∀ acc, (∀ py px, (draw acc).1[py.val][px.val] = (acc.1[py.val][px.val] ^^ d py px)) ∧
    ((draw acc).2 = true ↔ acc.2 = true ∨ ∃ py px, acc.1[py.val][px.val] = true ∧ d py px = true)

theorem draws_none {d : Pixels} (hd : ∀ py px, d py px = false) : Draws d id := fun acc => by
  simp [hd]

/-- One drawing after another, of other pixels. -/
theorem Draws.comp {d d' d'' : Pixels} {draw draw' : Framebuffer × Bool → Framebuffer × Bool} (h : Draws d draw)
    (h' : Draws d' draw') (hdisj : ∀ py px, d py px = true → d' py px = false)
    (hunion : ∀ py px, d'' py px = (d py px || d' py px)) : Draws d'' (fun acc => draw' (draw acc)) := by
  intro acc
  obtain ⟨hpix, hhit⟩ := h acc
  obtain ⟨hpix', hhit'⟩ := h' (draw acc)
  refine ⟨fun py px => ?_, ?_⟩
  · have := hdisj py px
    rw [hpix', hpix, hunion]
    cases hd : d py px <;> simp_all
  · have hfresh : ∀ py px, (draw acc).1[py.val][px.val] = true ∧ d' py px = true ↔
        acc.1[py.val][px.val] = true ∧ d' py px = true := fun py px => by
      have := hdisj py px
      rw [hpix]
      cases hd : d py px <;> simp_all
    simp only [hhit', hhit, hfresh, hunion, Bool.or_eq_true, and_or_left, exists_or, or_assoc]

theorem draws_drawPixel (qx : Fin 64) (qy : Fin 32) :
    Draws (fun py px => decide (py = qy ∧ px = qx)) (drawPixel qx qy) := by
  intro acc
  refine ⟨fun py px => ?_, ?_⟩
  · by_cases hy : py = qy
    · subst hy
      by_cases hx : px = qx
      · simp [drawPixel, hx]
      · have hne : qx.val ≠ px.val := fun h => hx (Fin.ext h).symm
        simp [drawPixel, hx, hne]
    · have hne : qy.val ≠ py.val := fun h => hy (Fin.ext h).symm
      simp [drawPixel, hy, hne]
  · simp [drawPixel]

/-- The column of a sprite drawn from `x0` on that falls on column `px`, wrapping (R201). -/
def spriteColumn (x0 : Nat) (px : Fin 64) : Nat :=
  (px.val + 64 - x0 % 64) % 64

/-- The row of a sprite drawn from `y0` on that falls on row `py`, wrapping (R201). -/
def spriteRow (y0 : Nat) (py : Fin 32) : Nat :=
  (py.val + 32 - y0 % 32) % 32

theorem spriteColumn_eq_iff {x0 c : Nat} (hc : c < 64) (px : Fin 64) :
    spriteColumn x0 px = c ↔ px = Fin.ofNat 64 (x0 + c) := by
  rw [Fin.ext_iff, Fin.val_ofNat, spriteColumn]
  omega

theorem spriteRow_eq_zero_iff {y0 : Nat} (py : Fin 32) : spriteRow y0 py = 0 ↔ py = Fin.ofNat 32 y0 := by
  rw [Fin.ext_iff, Fin.val_ofNat, spriteRow]
  omega

/-- Past its first row a sprite is one drawn a row lower. -/
theorem spriteRow_succ {y0 : Nat} {py : Fin 32} (h : spriteRow y0 py ≠ 0) :
    spriteRow y0 py = spriteRow (y0 + 1) py + 1 := by
  unfold spriteRow at *
  omega

/-- On its first row a sprite drawn a row lower would have its last of 32. -/
theorem spriteRow_succ_of_eq_zero {y0 : Nat} {py : Fin 32} (h : spriteRow y0 py = 0) :
    spriteRow (y0 + 1) py = 31 := by
  unfold spriteRow at *
  omega

/-- The pixels that the first `n` columns of a sprite row cover on row `qy`. -/
def rowPixels (x0 : Nat) (qy : Fin 32) (row : Byte) (n : Nat) : Pixels := fun py px =>
  decide (py = qy) && decide (spriteColumn x0 px < n) && row.getLsbD (7 - spriteColumn x0 px)

/-- The pixels that the rows of a sprite cover. -/
def spritePixels (x0 y0 : Nat) (rows : List Byte) : Pixels := fun py px =>
  decide (spriteColumn x0 px < 8) && (rows.getD (spriteRow y0 py) 0x00#8).getLsbD (7 - spriteColumn x0 px)

/-- Column by column. -/
theorem draws_columns (x0 : Nat) (qy : Fin 32) (row : Byte) (n : Nat) (hn : n ≤ 64) :
    Draws (rowPixels x0 qy row n) (fun acc => (List.range n).foldl
      (fun acc c => if row.getLsbD (7 - c) then drawPixel (Fin.ofNat 64 (x0 + c)) qy acc else acc) acc) := by
  induction n with
  | zero => exact draws_none fun py px => by simp [rowPixels]
  | succ n ih =>
    have hcol := spriteColumn_eq_iff (x0 := x0) (c := n) hn
    have hstep : Draws (fun py px => decide (py = qy ∧ spriteColumn x0 px = n) && row.getLsbD (7 - n))
        (fun acc => if row.getLsbD (7 - n) then drawPixel (Fin.ofNat 64 (x0 + n)) qy acc else acc) := by
      cases hb : row.getLsbD (7 - n) with
      | true => simpa [hcol] using draws_drawPixel (Fin.ofNat 64 (x0 + n)) qy
      | false => exact draws_none fun py px => Bool.and_false _
    simp only [List.range_succ, List.foldl_append, List.foldl_cons, List.foldl_nil]
    refine (ih (by omega)).comp hstep (fun py px h => ?_) fun py px => ?_
    · simp only [rowPixels, Bool.and_eq_true, decide_eq_true_eq] at h
      simp [Nat.ne_of_lt h.1.2]
    · by_cases hc : spriteColumn x0 px = n
      · simp [rowPixels, hc]
      · have hlt : spriteColumn x0 px < n + 1 ↔ spriteColumn x0 px < n := by omega
        simp only [rowPixels, hc, hlt, and_false, decide_false, Bool.false_and, Bool.or_false]

/-- A sprite row covers eight columns. -/
theorem draws_drawRow (x0 : Nat) (qy : Fin 32) (row : Byte) : Draws (rowPixels x0 qy row 8) (drawRow x0 qy row) :=
  draws_columns x0 qy row 8 (by decide)

/-- The first row of a sprite, and the sprite of the others a row lower. -/
theorem spritePixels_cons {x0 y0 : Nat} {row : Byte} {rows : List Byte} (hlen : rows.length < 32) (py : Fin 32)
    (px : Fin 64) : spritePixels x0 y0 (row :: rows) py px =
      (rowPixels x0 (Fin.ofNat 32 y0) row 8 py px || spritePixels x0 (y0 + 1) rows py px) := by
  simp only [spritePixels, rowPixels, ← spriteRow_eq_zero_iff]
  by_cases h : spriteRow y0 py = 0
  · have hlast : rows.getD (spriteRow (y0 + 1) py) 0x00#8 = 0x00#8 := by
      rw [spriteRow_succ_of_eq_zero h]
      exact List.getD_eq_default _ _ (by omega)
    rw [hlast, h, List.getD_cons_zero]
    simp
  · rw [spriteRow_succ h, List.getD_cons_succ]
    simp

/-- The first row and the others cover different pixels. -/
theorem spritePixels_eq_false_of_rowPixels {x0 y0 : Nat} {row : Byte} {rows : List Byte} (hlen : rows.length < 32)
    {py : Fin 32} {px : Fin 64} (h : rowPixels x0 (Fin.ofNat 32 y0) row 8 py px = true) :
    spritePixels x0 (y0 + 1) rows py px = false := by
  simp only [rowPixels, Bool.and_eq_true, decide_eq_true_eq] at h
  have hlast := spriteRow_succ_of_eq_zero ((spriteRow_eq_zero_iff py).2 h.1.1)
  simp [spritePixels, hlast, List.getElem?_eq_none (Nat.le_of_lt_succ hlen)]

/-- Row by row, from the top. -/
theorem draws_drawRows (x0 : Nat) (rows : List Byte) (y0 : Nat) (hlen : rows.length ≤ 32) :
    Draws (spritePixels x0 y0 rows) (drawRows x0 y0 rows) := by
  induction rows generalizing y0 with
  | nil => exact draws_none fun py px => by simp [spritePixels]
  | cons row rows ih =>
    exact (draws_drawRow x0 (Fin.ofNat 32 y0) row).comp (ih (y0 + 1) (Nat.le_of_succ_le hlen))
      (fun _ _ => spritePixels_eq_false_of_rowPixels hlen) (spritePixels_cons hlen)

/-- The sprite of `n` bytes from `I` on (R201). -/
def State.sprite (s : State) (n : Nat) : List Byte :=
  (List.range n).map fun k => s.c8Byte (s.c8.i.toNat + k)

/-- The pixels it covers are those that R201 gives bit by bit. -/
theorem spritePixels_sprite (s : State) (x y n : Nat) (py : Fin 32) (px : Fin 64) :
    spritePixels (x % 64) (y % 32) (s.sprite n) py px = s.spriteBit x y n px py := by
  have hcol : spriteColumn (x % 64) px = (px.val + 64 - x % 64) % 64 := by rw [spriteColumn, Nat.mod_mod]
  have hrow : spriteRow (y % 32) py = (py.val + 32 - y % 32) % 32 := by rw [spriteRow, Nat.mod_mod]
  unfold spritePixels State.sprite State.spriteBit
  rw [hcol, hrow]
  by_cases h : (py.val + 32 - y % 32) % 32 < n <;> simp [h]

/-- The framebuffer and the collision that `DRW Vx,Vy,n` leaves (R201). -/
def State.drawn (s : State) (x y : VReg) (n : Fin 16) : Framebuffer × Bool :=
  drawRows ((s.vx x).toNat % 64) ((s.vx y).toNat % 32) (s.sprite n.val) (s.c8.fb, false)

theorem drawn_spec (s : State) (x y : VReg) (n : Fin 16) :
    (∀ (py : Fin 32) (px : Fin 64), (s.drawn x y n).1[py.val][px.val] =
      (s.c8.fb[py.val][px.val] ^^ s.spriteBit (s.vx x).toNat (s.vx y).toNat n.val px py)) ∧
    ((s.drawn x y n).2 = true ↔ ∃ (py : Fin 32) (px : Fin 64), s.c8.fb[py.val][px.val] = true ∧
      s.spriteBit (s.vx x).toNat (s.vx y).toNat n.val px py = true) := by
  have hlen : (s.sprite n.val).length ≤ 32 := by simp [State.sprite]; omega
  obtain ⟨hpix, hhit⟩ := draws_drawRows ((s.vx x).toNat % 64) (s.sprite n.val) ((s.vx y).toNat % 32) hlen
    (s.c8.fb, false)
  simp only [spritePixels_sprite] at hpix hhit
  exact ⟨hpix, hhit.trans (or_iff_right Bool.false_ne_true)⟩

/-- `DRW` where every byte of the sprite can be read (R72, R201). -/
theorem exec_c8Drw {s : State} {n : Fin 16} (x y : VReg) (h : n.val = 0 ∨ s.c8.i.toNat + n.val ≤ 0x1000) :
    exec (.c8Drw x y n) s = .next (((s.advanceC8.setFb (s.drawn x y n).1).setV vf
      (bitByte (s.drawn x y n).2)).respond (.cycles 1)) :=
  congrArg (fun r => finish s 1 (Except.map _ r)) ((c8Read_eq s.advanceC8 s.c8.i.toNat n.val).1 h)

theorem bitByte_eq_one_iff (b : Bool) : bitByte b = 0x01#8 ↔ b = true := by
  cases b <;> decide

theorem bitByte_eq_zero_or_one (b : Bool) : bitByte b = 0x00#8 ∨ bitByte b = 0x01#8 := by
  cases b <;> decide

/-- The pixels that `CLS` leaves (R200). -/
theorem clearFb_getElem (py : Fin 32) (px : Fin 64) : clearFb[py.val][px.val] = false := by
  simp [clearFb]

end Sys2Proof.Machine

section
open Sys2Proof Sys2Proof.Machine

/-- Settles O39: what is drawn turns over the pixels of the sprite. -/
theorem c8Display : Obligations.C8Display := by
  intro x y n s
  refine ⟨⟨_, rfl, ⟨rfl, rfl⟩, clearFb_getElem, ?_⟩, fun h => ⟨_, exec_c8Drw x y h, ⟨rfl, rfl⟩, ?_⟩⟩
  · exact ((frame_advanceC8 s).trans (frame_setFb _ _)).trans (frame_respond _ _)
  · obtain ⟨hpix, hhit⟩ := drawn_spec s x y n
    rw [vx_respond, vx_setV_vf]
    refine ⟨hpix, (bitByte_eq_one_iff _).trans hhit, bitByte_eq_zero_or_one _, ?_⟩
    exact (((frame_advanceC8 s).trans (frame_setFb _ _)).trans (frame_setV _ vf _)).trans (frame_respond _ _)

end

namespace Sys2Proof.Machine

/-! ## The special state

Most instructions write registers, flags, memory of variant LR and the pc only. The rest of the state, but for
the configuration, the inputs and the count of draws, is special: few instructions write it, and `specialAfter`
says which ones and what. -/

/-- The special state of both variants, with the status and `last_opcode`. -/
structure Special where
  i : Word
  c8Sp : Fin 17
  stack : Vector Word 16
  dt : Byte
  st : Byte
  fb : Framebuffer
  c8Mem : Memory
  waitReg : VReg
  sp : Word
  ime : Bool
  eiPending : Bool
  skipNext : Bool
  status : Status
  lastOpcode : Option Fetched

/-- The special state of a state. -/
def State.special (s : State) : Special where
  i := s.c8.i
  c8Sp := s.c8.sp
  stack := s.c8.stack
  dt := s.c8.dt
  st := s.c8.st
  fb := s.c8.fb
  c8Mem := s.c8.mem
  waitReg := s.c8.waitReg
  sp := s.lr.sp
  ime := s.lr.ime
  eiPending := s.lr.eiPending
  skipNext := s.lr.skipNext
  status := s.status
  lastOpcode := s.lastOpcode

/-- The special state after instruction `i` completes in `s`: that of `s` but for the parts `i` writes. A part
whose value is of no interest is taken from `after`, the special state the instruction leaves. -/
def specialAfter (i : Instr) (s : State) (after : Special) : Special :=
  match i with
  | .c8LdI _ | .c8AddI _ | .c8LdF _ => { s.special with i := after.i }
  | .c8Call _ => { s.special with c8Sp := after.c8Sp, stack := after.stack }
  | .c8Ret => { s.special with c8Sp := after.c8Sp }
  | .c8LdDtVx _ => { s.special with dt := after.dt }
  | .c8LdStVx _ => { s.special with st := after.st }
  | .c8Cls | .c8Drw _ _ _ => { s.special with fb := after.fb }
  | .c8LdB _ | .c8StoreRegs _ => { s.special with c8Mem := after.c8Mem }
  | .c8LdVxK x => { s.special with waitReg := x, status := .halted }
  | .lrLdPairN p _ | .lrIncPair p | .lrDecPair p => { s.special with sp := if p = .sp then after.sp else s.lr.sp }
  | .lrLdSpHl | .lrAddSp _ | .lrPush _ | .lrPop _ | .lrPopAf | .lrCall _ | .lrCallCc _ _ | .lrRst _ | .lrRet
  | .lrRetCc _ => { s.special with sp := after.sp }
  | .lrReti => { s.special with sp := after.sp, ime := true }
  | .lrDi => { s.special with ime := false, eiPending := false }
  | .lrEi => { s.special with eiPending := true }
  | .lrHalt =>
    { s.special with
      skipNext := if s.lr.ime = false ∧ s.pending = true then true else s.lr.skipNext
      status := if s.lr.ime = false ∧ s.pending = true then s.status else .halted }
  | .lrStop _ => { s.special with status := .stopped }
  | _ => s.special

theorem specialAfter_lrHalt (s : State) (after : Special) : specialAfter .lrHalt s after =
    { s.special with
      skipNext := if s.lr.ime = false ∧ s.pending = true then true else s.lr.skipNext
      status := if s.lr.ime = false ∧ s.pending = true then s.status else .halted } := rfl

/-- An operation fails, or leaves the special state that `g` gives. -/
def Leaves (g : Special → Special) : Except Failure State → Prop
  | .ok t => t.special = g t.special
  | .error _ => True

/-- An instruction started in `s` fails there, or leaves the special state that `g` gives. -/
def Performs (g : Special → Special) (s : State) (o : Out) : Prop :=
  ∀ t, o = .next t → (∃ f, t = s.crash f) ∨ t.special = g t.special

section
variable {g : Special → Special} {a : Special} {s : State} {r : Except Failure State}

theorem Leaves.weaken (h : Leaves (fun _ => a) r) (ha : a = g a) : Leaves g r := by
  cases r with
  | ok t =>
    have h : t.special = a := h
    exact show t.special = g t.special from h.symm ▸ ha
  | error f => trivial

theorem Leaves.bind {k : State → Except Failure State} (hr : Leaves g r)
    (hk : ∀ t, Leaves (fun _ => t.special) (k t)) : Leaves g (r.bind k) := by
  cases r with
  | ok t => exact (hk t).weaken hr
  | error f => trivial

theorem Leaves.map {k : State → State} (hr : Leaves g r) (hk : ∀ t, (k t).special = t.special) :
    Leaves g (r.map k) := by
  cases r with
  | ok t => exact Leaves.weaken (r := .ok (k t)) (hk t) hr
  | error f => trivial

/-- An operation goes on from what it read. -/
theorem leaves_map {α : Type} {r : Except Failure α} {k : α → State}
    (hk : ∀ x, (k x).special = g (k x).special) : Leaves g (r.map k) := by
  cases r with
  | ok x => exact hk x
  | error f => trivial

theorem performs_finish {n : Nat} (hr : Leaves g r) : Performs g s (finish s n r) := by
  intro t ht
  cases r with
  | ok u => cases ht; exact .inr hr
  | error f => cases ht; exact .inl ⟨f, rfl⟩

end

/-- The pc is no special state. -/
theorem specialAfter_advanceC8 (i : Instr) (s : State) : specialAfter i s.advanceC8 = specialAfter i s := rfl

/-- The pc is no special state. -/
theorem specialAfter_advanceLr (i : Instr) (s : State) (len : Nat) :
    specialAfter i (s.advanceLr len) = specialAfter i s := rfl

section
variable {i : Instr} {op : State → Except Failure State} (hop : ∀ t, Leaves (specialAfter i t) (op t)) (s : State)
include hop

theorem performs_runC8 : Performs (specialAfter i s) s (runC8 op s) :=
  performs_finish (specialAfter_advanceC8 i s ▸ hop s.advanceC8)

theorem performs_runLr {len cycles : Nat} : Performs (specialAfter i s) s (runLr len cycles op s) :=
  performs_finish (specialAfter_advanceLr i s len ▸ hop (s.advanceLr len))

theorem performs_runLrIf {cc : Cond} {len taken notTaken : Nat}
    (hnot : ∀ t : State, t.special = specialAfter i t t.special) :
    Performs (specialAfter i s) s (runLrIf cc len taken notTaken op s) := by
  unfold runLrIf
  split
  · exact performs_runLr hop s
  · exact performs_finish (specialAfter_advanceLr i s len ▸ hnot (s.advanceLr len))

end

/-! ### Updates that write no special state -/

theorem special_setV (s : State) (x : VReg) (v : Byte) : (s.setV x v).special = s.special := rfl

theorem special_setVWithFlag (s : State) (x : VReg) (r : Byte × Bool) :
    (s.setVWithFlag x r).special = s.special := rfl

theorem special_setC8Pc (s : State) (v : Word) : (s.setC8Pc v).special = s.special := rfl

theorem special_setLrPc (s : State) (v : Word) : (s.setLrPc v).special = s.special := rfl

theorem special_setFlags (s : State) (fl : Flags) : (s.setFlags fl).special = s.special := rfl

theorem special_setReg (s : State) (r : Reg8) (v : Byte) : (s.setReg r v).special = s.special := by
  cases r <;> rfl

theorem special_setAcc (s : State) (r : Byte × Flags) : (s.setAcc r).special = s.special := rfl

theorem special_setHl (s : State) (w : Word) : (s.setHl w).special = s.special := rfl

theorem special_setPair (s : State) {p : Pair} (w : Word) (hp : p ≠ .sp) : (s.setPair p w).special = s.special := by
  cases p with
  | sp => exact absurd rfl hp
  | bc | de | hl => rfl

theorem special_skipIf (s : State) (c : Bool) : (s.skipIf c).special = s.special := by
  cases c <;> rfl

theorem special_loadRegs (vs : List Byte) (s : State) (k : Nat) : (loadRegs s k vs).special = s.special := by
  induction vs generalizing s k with
  | nil => rfl
  | cons v vs ih =>
    rw [loadRegs, ih]
    split <;> rfl

/-! ### Operations -/

theorem leaves_c8Write (s : State) (a : Nat) (vs : List Byte) :
    Leaves (fun after => { s.special with c8Mem := after.c8Mem }) (s.c8Write a vs) := by
  unfold State.c8Write
  split
  · trivial
  · rfl

theorem leaves_push_setC8Pc (s : State) (v w : Word) :
    Leaves (fun after => { s.special with c8Sp := after.c8Sp, stack := after.stack })
      ((s.push v).map (·.setC8Pc w)) := by
  unfold State.push
  split
  · rfl
  · trivial

theorem leaves_pop_setC8Pc (s : State) :
    Leaves (fun after => { s.special with c8Sp := after.c8Sp }) (s.pop.map fun p => p.2.setC8Pc p.1) := by
  unfold State.pop
  split
  · trivial
  · rfl

theorem leaves_lrWrite (s : State) (a : Word) (v : Byte) : Leaves (fun _ => s.special) (s.lrWrite a v) := by
  unfold State.lrWrite
  split
  · trivial
  · rfl

theorem leaves_lrWrite16 (s : State) (a v : Word) : Leaves (fun _ => s.special) (s.lrWrite16 a v) :=
  (leaves_lrWrite s a _).bind fun t => leaves_lrWrite t _ _

theorem leaves_setR8 (s : State) (o : Operand8) (v : Byte) : Leaves (fun _ => s.special) (s.setR8 o v) := by
  cases o with
  | reg r => exact special_setReg s r v
  | atHl => exact leaves_lrWrite s s.hl v

theorem leaves_push16 (s : State) (v : Word) :
    Leaves (fun after => { s.special with sp := after.sp }) (s.push16 v) := by
  unfold State.push16
  split
  · trivial
  · exact (leaves_lrWrite16 (s.setSp _) _ v).weaken rfl

theorem leaves_pop16_map (s : State) {g : Special → Special} {k : Word × State → State}
    (hk : ∀ w v, (k (w, s.setSp v)).special = g (k (w, s.setSp v)).special) : Leaves g (s.pop16.map k) := by
  unfold State.pop16
  split
  · trivial
  · exact hk _ _

theorem leaves_pop16_setStackPair (s : State) (p : StackPair) :
    Leaves (fun after => { s.special with sp := after.sp }) (s.pop16.map fun r => r.2.setStackPair p r.1) :=
  leaves_pop16_map s fun w v => by cases p <;> rfl

theorem leaves_callTo (s : State) (w : Word) :
    Leaves (fun after => { s.special with sp := after.sp }) (s.callTo w) :=
  (leaves_push16 s _).map fun _ => rfl

theorem leaves_returnTo (s : State) : Leaves (fun after => { s.special with sp := after.sp }) s.returnTo :=
  leaves_pop16_map s fun _ _ => rfl

theorem leaves_modify8 (f : Byte → Flags → Byte × Flags) (o : Operand8) (s : State) :
    Leaves (fun _ => s.special) (modify8 f o s) :=
  (leaves_setR8 s o _).map fun _ => rfl

theorem leaves_rotate8 (rot : Byte → Bool → Byte × Bool) (o : Operand8) (s : State) :
    Leaves (fun _ => s.special) (rotate8 rot o s) :=
  (leaves_setR8 s o _).map fun _ => rfl

/-! ### Instructions -/

theorem performs_onCode {g : Special → Special} {zzz : Nat} {f : Reg8 → State → Out} {m : State → Out}
    {s : State} (hf : ∀ r, Performs g s (f r s)) (hm : Performs g s (m s)) : Performs g s (onCode zzz f m s) := by
  unfold onCode
  cases regOfCode zzz with
  | some r => exact hf r
  | none => exact hm

/-- The instructions that 0xCB and the next byte select write no special state (R112). -/
theorem performs_prefixCb (b1 : Byte) (s : State) :
    Performs (specialAfter (.lrPrefixCb b1) s) s (execLrPrefixCb b1 s) := by
  unfold execLrPrefixCb
  dsimp only
  generalize fieldXx b1 = xx
  match xx with
  | 0 =>
    generalize (fieldYyy b1).val = yyy
    match yyy with
    | 0 | 1 | 2 | 3 | 4 | 5 | 6 | _ + 7 =>
      refine performs_onCode (fun r => performs_runLr (fun t => ?_) s) (performs_runLr (fun t => ?_) s)
      · exact leaves_rotate8 _ (.reg r) t
      · exact leaves_rotate8 _ .atHl t
  | 1 =>
    refine performs_onCode (fun r => performs_runLr (fun t => ?_) s) (performs_runLr (fun t => ?_) s)
    · exact special_setFlags t _
    · exact special_setFlags t _
  | 2 | _ + 3 =>
    refine performs_onCode (fun r => performs_runLr (fun t => ?_) s) (performs_runLr (fun t => ?_) s)
    · exact leaves_setR8 t (.reg r) _
    · exact leaves_setR8 t .atHl _

/-- What an instruction leaves of the special state where it completes: variant C8. -/
theorem performs_exec_c8 (i : Instr) (hi : i.system = .c8) (s : State) : Performs (specialAfter i s) s (exec i s) := by
  unfold exec
  cases i with
  | c8LdImm | c8AddImm | c8LdReg | c8Or | c8And | c8Xor | c8LdVxDt =>
    refine performs_runC8 (fun t => ?_) s
    exact special_setV t _ _
  | c8AddReg | c8Sub | c8Subn | c8Shr | c8Shl =>
    refine performs_runC8 (fun t => ?_) s
    exact special_setVWithFlag t _ _
  | c8Rnd =>
    refine performs_runC8 (fun t => ?_) s
    exact special_setV t _ _
  | c8Jp | c8JpV0 =>
    refine performs_runC8 (fun t => ?_) s
    exact special_setC8Pc t _
  | c8LdI | c8AddI | c8Cls | c8LdDtVx | c8LdStVx | c8LdVxK =>
    refine performs_runC8 (fun t => ?_) s
    exact rfl
  | c8SeImm | c8SneImm | c8SeReg | c8SneReg =>
    refine performs_runC8 (fun t => ?_) s
    exact special_skipIf t _
  | c8Skp | c8Sknp =>
    refine performs_runC8 (fun t => ?_) s
    exact leaves_map fun _ => special_skipIf t _
  | c8Drw =>
    refine performs_runC8 (fun t => ?_) s
    exact leaves_map fun _ => rfl
  | c8LoadRegs =>
    refine performs_runC8 (fun t => ?_) s
    exact leaves_map fun vs => special_loadRegs vs t 0
  | c8LdB | c8StoreRegs =>
    refine performs_runC8 (fun t => ?_) s
    exact leaves_c8Write t _ _
  | c8Sys nnn => exact fun t ht => .inl ⟨_, (Host.Outcome.next.inj ht).symm⟩
  | c8Call nnn =>
    refine performs_runC8 (fun t => ?_) s
    exact leaves_push_setC8Pc t _ _
  | c8Ret =>
    refine performs_runC8 (fun t => ?_) s
    exact leaves_pop_setC8Pc t
  | c8LdF x =>
    refine performs_runC8 (fun t => ?_) s
    split
    · trivial
    · exact rfl
  | _ => cases hi

/-- What an instruction leaves of the special state where it completes: variant LR. -/
theorem performs_exec_lr (i : Instr) (hi : i.system = .lr) (s : State) : Performs (specialAfter i s) s (exec i s) := by
  unfold exec
  cases i with
  | lrAddR | lrAddM | lrAddN | lrAdcR | lrAdcM | lrAdcN | lrSubR | lrSubM | lrSubN | lrSbcR | lrSbcM | lrSbcN
  | lrAndR | lrAndM | lrAndN | lrXorR | lrXorM | lrXorN | lrOrR | lrOrM | lrOrN | lrDaa | lrCpl | lrRlca | lrRrca
  | lrRla | lrRra =>
    refine performs_runLr (fun t => ?_) s
    exact special_setAcc t _
  | lrCpR | lrCpM | lrCpN | lrScf | lrCcf | lrBitR | lrBitM =>
    refine performs_runLr (fun t => ?_) s
    exact special_setFlags t _
  | lrLdHlSp | lrAddHl =>
    refine performs_runLr (fun t => ?_) s
    exact (special_setFlags _ _).trans (special_setHl t _)
  | lrLdRR | lrLdRM | lrLdRN | lrLdABc | lrLdADe | lrLdAA16 | lrLdhAA8 | lrLdAC =>
    refine performs_runLr (fun t => ?_) s
    exact special_setReg t _ _
  | lrLdAHli | lrLdAHld =>
    refine performs_runLr (fun t => ?_) s
    exact (special_setHl _ _).trans (special_setReg t _ _)
  | lrJp | lrJpHl | lrJr =>
    refine performs_runLr (fun t => ?_) s
    exact special_setLrPc t _
  | lrNop | lrLdSpHl | lrAddSp | lrDi | lrEi | lrStop =>
    refine performs_runLr (fun t => ?_) s
    exact rfl
  | lrLdPairN p | lrIncPair p | lrDecPair p =>
    refine performs_runLr (fun t => ?_) s
    cases p with
    | sp => exact rfl
    | bc | de | hl => exact special_setPair t _ nofun
  | lrLdMR | lrLdMN | lrLdBcA | lrLdDeA | lrLdA16A | lrLdhA8A | lrLdCA =>
    refine performs_runLr (fun t => ?_) s
    exact leaves_lrWrite t _ _
  | lrLdHliA | lrLdHldA =>
    refine performs_runLr (fun t => ?_) s
    exact (leaves_lrWrite t _ _).map fun u => special_setHl u _
  | lrLdA16Sp =>
    refine performs_runLr (fun t => ?_) s
    exact leaves_lrWrite16 t _ _
  | lrPush =>
    refine performs_runLr (fun t => ?_) s
    exact leaves_push16 t _
  | lrPop p =>
    refine performs_runLr (fun t => ?_) s
    exact leaves_pop16_setStackPair t p
  | lrPopAf =>
    refine performs_runLr (fun t => ?_) s
    exact leaves_pop16_setStackPair t .af
  | lrReti =>
    refine performs_runLr (fun t => ?_) s
    exact leaves_pop16_map t fun _ _ => rfl
  | lrIncR | lrIncM | lrDecR | lrDecM =>
    refine performs_runLr (fun t => ?_) s
    exact leaves_modify8 _ _ t
  | lrRlcR | lrRlcM | lrRrcR | lrRrcM | lrRlR | lrRlM | lrRrR | lrRrM | lrSlaR | lrSlaM | lrSraR | lrSraM
  | lrSwapR | lrSwapM | lrSrlR | lrSrlM =>
    refine performs_runLr (fun t => ?_) s
    exact leaves_rotate8 _ _ t
  | lrResR | lrResM | lrSetR | lrSetM =>
    refine performs_runLr (fun t => ?_) s
    exact leaves_setR8 t _ _
  | lrPrefixCb b1 => exact performs_prefixCb b1 s
  | lrJpCc | lrJrCc =>
    refine performs_runLrIf (fun t => ?_) s fun t => rfl
    exact special_setLrPc t _
  | lrCall | lrRst =>
    refine performs_runLr (fun t => ?_) s
    exact leaves_callTo t _
  | lrCallCc =>
    refine performs_runLrIf (fun t => ?_) s fun t => rfl
    exact leaves_callTo t _
  | lrRet =>
    refine performs_runLr (fun t => ?_) s
    exact leaves_returnTo t
  | lrRetCc =>
    refine performs_runLrIf (fun t => ?_) s fun t => rfl
    exact leaves_returnTo t
  | lrHalt =>
    refine performs_runLr (fun t => ?_) s
    show State.special (ite _ _ _) = specialAfter .lrHalt t _
    rw [specialAfter_lrHalt]
    by_cases h : t.lr.ime = false ∧ t.pending = true
    · rw [if_pos h, if_pos h, if_pos h]
      rfl
    · rw [if_neg h, if_neg h, if_neg h]
      rfl
  | _ => cases hi

/-- What an instruction leaves of the special state where it completes. -/
theorem performs_exec (i : Instr) (s : State) : Performs (specialAfter i s) s (exec i s) := by
  cases hi : i.system with
  | c8 => exact performs_exec_c8 i hi s
  | lr => exact performs_exec_lr i hi s

/-- An instruction fails, or leaves the special state that `specialAfter` gives. -/
theorem exec_special {i : Instr} {s t : State} (h : exec i s = .next t) :
    (∃ f, t = s.crash f) ∨ t.special = specialAfter i s t.special :=
  performs_exec i s t h

/-! ### The writers of each part -/

section
variable {i : Instr} {s : State} {a : Special} (ha : a = specialAfter i s a)
include ha

theorem writers_i (h : a.i ≠ s.c8.i) : (∃ nnn, i = .c8LdI nnn) ∨ (∃ x, i = .c8AddI x) ∨ ∃ x, i = .c8LdF x := by
  rw [ha] at h
  cases i with
  | c8LdI | c8AddI | c8LdF => simp
  | _ => exact absurd rfl h

theorem writers_c8Sp (h : a.c8Sp ≠ s.c8.sp) : (∃ nnn, i = .c8Call nnn) ∨ i = .c8Ret := by
  rw [ha] at h
  cases i with
  | c8Call | c8Ret => simp
  | _ => exact absurd rfl h

theorem writers_stack (h : a.stack ≠ s.c8.stack) : ∃ nnn, i = .c8Call nnn := by
  rw [ha] at h
  cases i with
  | c8Call nnn => exact ⟨nnn, rfl⟩
  | _ => exact absurd rfl h

theorem writers_dt (h : a.dt ≠ s.c8.dt) : ∃ x, i = .c8LdDtVx x := by
  rw [ha] at h
  cases i with
  | c8LdDtVx x => exact ⟨x, rfl⟩
  | _ => exact absurd rfl h

theorem writers_st (h : a.st ≠ s.c8.st) : ∃ x, i = .c8LdStVx x := by
  rw [ha] at h
  cases i with
  | c8LdStVx x => exact ⟨x, rfl⟩
  | _ => exact absurd rfl h

theorem writers_fb (h : a.fb ≠ s.c8.fb) : i = .c8Cls ∨ ∃ x y n, i = .c8Drw x y n := by
  rw [ha] at h
  cases i with
  | c8Cls | c8Drw => simp
  | _ => exact absurd rfl h

theorem writers_c8Mem (h : a.c8Mem ≠ s.c8.mem) : (∃ x, i = .c8LdB x) ∨ ∃ x, i = .c8StoreRegs x := by
  rw [ha] at h
  cases i with
  | c8LdB | c8StoreRegs => simp
  | _ => exact absurd rfl h

theorem writers_waitReg (h : a.waitReg ≠ s.c8.waitReg) : ∃ x, i = .c8LdVxK x := by
  rw [ha] at h
  cases i with
  | c8LdVxK x => exact ⟨x, rfl⟩
  | _ => exact absurd rfl h

theorem writers_sp (h : a.sp ≠ s.lr.sp) :
    (∃ d16, i = .lrLdPairN .sp d16) ∨ i = .lrLdSpHl ∨ i = .lrIncPair .sp ∨ i = .lrDecPair .sp ∨
    (∃ e, i = .lrAddSp e) ∨ (∃ p, i = .lrPush p) ∨ (∃ p, i = .lrPop p) ∨ i = .lrPopAf ∨ (∃ a16, i = .lrCall a16) ∨
    (∃ cc a16, i = .lrCallCc cc a16) ∨ (∃ n, i = .lrRst n) ∨ i = .lrRet ∨ (∃ cc, i = .lrRetCc cc) ∨ i = .lrReti := by
  rw [ha] at h
  cases i with
  | lrLdPairN p | lrIncPair p | lrDecPair p =>
    cases p with
    | sp => simp
    | bc | de | hl => exact absurd rfl h
  | lrLdSpHl | lrAddSp | lrPush | lrPop | lrPopAf | lrCall | lrCallCc | lrRst | lrRet | lrRetCc | lrReti => simp
  | _ => exact absurd rfl h

theorem writers_ime (h : a.ime ≠ s.lr.ime) : i = .lrDi ∨ i = .lrReti := by
  rw [ha] at h
  cases i with
  | lrDi | lrReti => simp
  | _ => exact absurd rfl h

theorem writers_eiPending (h : a.eiPending ≠ s.lr.eiPending) : i = .lrEi ∨ i = .lrDi := by
  rw [ha] at h
  cases i with
  | lrEi | lrDi => simp
  | _ => exact absurd rfl h

theorem writers_skipNext (h : a.skipNext ≠ s.lr.skipNext) : i = .lrHalt := by
  rw [ha] at h
  cases i with
  | lrHalt => rfl
  | _ => exact absurd rfl h

theorem writers_halted (h : a.status = .halted) (hs : s.status ≠ .halted) : (∃ x, i = .c8LdVxK x) ∨ i = .lrHalt := by
  rw [ha] at h
  cases i with
  | c8LdVxK | lrHalt => simp
  | lrStop => cases h
  | _ => exact absurd h hs

theorem writers_stopped (h : a.status = .stopped) (hs : s.status ≠ .stopped) : ∃ b1, i = .lrStop b1 := by
  rw [ha] at h
  cases i with
  | lrStop b1 => exact ⟨b1, rfl⟩
  | c8LdVxK => cases h
  | lrHalt =>
    rw [specialAfter_lrHalt] at h
    split at h
    · exact absurd h hs
    · cases h
  | _ => exact absurd h hs

/-- No instruction writes `last_opcode`. -/
theorem lastOpcode_of_specialAfter : a.lastOpcode = s.lastOpcode := by
  rw [ha]
  cases i <;> rfl

end

end Sys2Proof.Machine

section
open Sys2Proof Sys2Proof.Machine

/-- Settles O14: where an instruction fails nothing special but the status changes, and else each part has its
writers. -/
theorem c8Writers : Obligations.C8Writers := by
  intro i s t h
  obtain ⟨f, rfl⟩ | hs := exec_special h
  · simp
  · exact ⟨writers_i hs, writers_c8Sp hs, writers_stack hs, writers_dt hs, writers_st hs, writers_fb hs,
      writers_c8Mem hs, writers_waitReg hs, writers_halted hs⟩

/-- Settles O15: where an instruction fails nothing special but the status changes, and else each part has its
writers. -/
theorem lrWriters : Obligations.LrWriters := by
  intro i s t h
  obtain ⟨f, rfl⟩ | hs := exec_special h
  · simp
  · exact ⟨writers_sp hs, writers_ime hs, writers_eiPending hs, writers_skipNext hs, writers_stopped hs⟩

end

namespace Sys2Proof.Machine

/-! ## The phases of a step, one after another -/

theorem wakeCheck_of_not_halted {s : State} (h : s.status ≠ .halted) : s.wakeCheck = s := by
  cases hs : s.config.system with
  | c8 =>
    rw [(wakeCheck_eq s).1 hs]
    exact if_neg h
  | lr =>
    rw [(wakeCheck_eq s).2 hs, wakeLr_eq]
    exact if_neg fun hw => h hw.1

/-- A wake check leaves the status or makes it `Running` (R395, R396). -/
theorem wakeCheck_status (s : State) : s.wakeCheck.status = s.status ∨ s.wakeCheck.status = .running := by
  cases hs : s.config.system with
  | c8 =>
    rw [(wakeCheck_eq s).1 hs, State.wakeC8]
    split
    · split
      · exact .inr rfl
      · exact .inl rfl
    · exact .inl rfl
  | lr =>
    rw [(wakeCheck_eq s).2 hs, wakeLr_eq]
    split
    · exact .inr rfl
    · exact .inl rfl

theorem wakeCheck_config (s : State) : s.wakeCheck.config = s.config :=
  (evolves_wakeCheck rfl).config

theorem step_of_crashed {s : State} {f : Failure} (h : s.status = .crashed f) :
    step s = .next (s.respond (.err f)) := by
  simp only [step, stepCommand, crashGate, h, isCrashed, if_true]

theorem step_of_not_crashed {s : State} (h : isCrashed s.status = false) : step s = afterWake s.wakeCheck := by
  simp only [step, stepCommand, h, Bool.false_eq_true, if_false]

theorem afterWake_of_waiting {s : State} (h : isWaiting s.status = true) : afterWake s = .next (idleStep s) :=
  if_pos h

theorem afterWake_of_running {s : State} (h : s.status = .running) (hd : s.dispatches = false) :
    afterWake s = instructionStep s := by
  simp only [afterWake, h, hd, isWaiting, Bool.false_eq_true, if_false]

/-- Only variant LR dispatches interrupts (R390). -/
theorem lr_of_dispatches {s : State} (h : s.dispatches = true) : s.config.system = .lr := by
  cases hs : s.config.system with
  | c8 => simp [State.dispatches, hs] at h
  | lr => rfl

/-- What is settled is the answer of the instruction, or a crash (R138). -/
theorem settle_cases {base t : State} {o : Out} (h : settle base o = .next t) :
    (∃ f, t.status = .crashed f) ∨ o = .next t := by
  cases o with
  | next u =>
    cases hu : u.status with
    | crashed f =>
      simp only [settle, hu] at h
      cases h
      exact .inl ⟨f, rfl⟩
    | running | halted | stopped =>
      simp only [settle, hu] at h
      exact .inr h
  | fault r => cases h
  | refused r => cases h

/-- What the phases P5 to P9 can do (R130): fail, skip the instruction decoded, or carry it out. -/
theorem instructionStep_cases {s t : State} (h : instructionStep s = .next t) :
    (∃ f, t.status = .crashed f) ∨
    ∃ bytes i rest, s.fetchBytes = .ok bytes ∧ decode s.config.system bytes = .ok (i, rest) ∧
      ((s.fetched bytes).skips = true ∧ t = skipStep i (s.fetched bytes) ∨
        (s.fetched bytes).skips = false ∧ exec i (s.fetched bytes) = .next t) := by
  cases hf : s.fetchBytes with
  | error f =>
    rw [instructionStep_of_fetchBytes_error hf] at h
    cases h
    exact .inl ⟨f, rfl⟩
  | ok bytes =>
    cases hd : decode s.config.system bytes with
    | error e =>
      rw [instructionStep_of_decode_error hf hd] at h
      cases h
      exact .inl ⟨_, rfl⟩
    | ok r =>
      obtain ⟨i, rest⟩ := r
      rw [instructionStep_of_decode_ok hf hd] at h
      unfold performDecoded at h
      cases hk : (s.fetched bytes).skips with
      | true =>
        rw [if_pos hk] at h
        cases h
        exact .inr ⟨bytes, i, rest, rfl, hd, .inl ⟨hk, rfl⟩⟩
      | false =>
        rw [if_neg (Bool.eq_false_iff.1 hk)] at h
        exact (settle_cases h).imp_right fun hx => ⟨bytes, i, rest, rfl, hd, .inr ⟨hk, hx⟩⟩

/-! ## The status -/

theorem running_or_waiting {st : Status} (h : isCrashed st = false) : st = .running ∨ isWaiting st = true := by
  cases st with
  | running => exact .inl rfl
  | halted | stopped => exact .inr rfl
  | crashed f => cases h

theorem isCrashed_wakeCheck {s : State} (h : isCrashed s.status = false) : isCrashed s.wakeCheck.status = false := by
  obtain hw | hw := wakeCheck_status s
  · rwa [hw]
  · rw [hw]
    rfl

/-- A crash is for good (R131). -/
theorem step_status_of_crashed {s t : State} (h : step s = .next t) {f : Failure} (hf : s.status = .crashed f) :
    t.status = .crashed f := by
  rw [step_of_crashed hf] at h
  cases h
  exact hf

/-- So a step that changes the status starts from no crash. -/
theorem isCrashed_of_status_ne {s t : State} (h : step s = .next t) (hne : t.status ≠ s.status) :
    isCrashed s.status = false := by
  cases hs : s.status with
  | crashed f => exact absurd ((step_status_of_crashed h hs).trans hs.symm) hne
  | running | halted | stopped => rfl

/-- A core that waits after the wake check is left as it is (R131). -/
theorem step_status_of_waiting {s t : State} (h : step s = .next t) (hw : isWaiting s.wakeCheck.status = true)
    (hc : isCrashed s.status = false) : t.status = s.wakeCheck.status := by
  rw [step_of_not_crashed hc, afterWake_of_waiting hw] at h
  cases h
  rfl

theorem fetched_status (s : State) (bytes : List Byte) : (s.fetched bytes).status = s.status := by
  show s.commitEi.status = s.status
  rw [commitEi_eq]
  split <;> rfl

/-- Only an instruction of variant LR stops the core (R61). -/
theorem lr_of_instructionStep_stopped {s t : State} (h : instructionStep s = .next t) (ht : t.status = .stopped)
    (hs : s.status ≠ .stopped) : s.config.system = .lr := by
  obtain ⟨f, hf⟩ | ⟨bytes, i, rest, -, hd, ⟨-, rfl⟩ | ⟨-, hx⟩⟩ := instructionStep_cases h
  · cases ht.symm.trans hf
  · exact absurd ((fetched_status s bytes).symm.trans ht) hs
  · rw [← fetched_status s bytes] at hs
    obtain ⟨f, rfl⟩ | hsp := exec_special hx
    · cases ht
    · obtain ⟨b1, rfl⟩ := writers_stopped hsp ht hs
      exact (decode_system hd).symm

/-- Only a core of variant LR stops in a step (R61). -/
theorem lr_of_step_stopped {s t : State} (h : step s = .next t) (ht : t.status = .stopped)
    (hs : s.status ≠ .stopped) : s.config.system = .lr := by
  have hc := isCrashed_of_status_ne h fun he => hs (he.symm.trans ht)
  have hw : s.wakeCheck.status ≠ .stopped := by
    obtain he | he := wakeCheck_status s
    · rwa [he]
    · rw [he]
      nofun
  obtain hrun | hwait := running_or_waiting (isCrashed_wakeCheck hc)
  · rw [← wakeCheck_config]
    rw [step_of_not_crashed hc] at h
    cases hd : s.wakeCheck.dispatches with
    | true => exact lr_of_dispatches hd
    | false => exact lr_of_instructionStep_stopped (afterWake_of_running hrun hd ▸ h) ht hw
  · exact absurd ((step_status_of_waiting h hwait hc).symm.trans ht) hw

/-! ## The instruction after `EI` -/

/-- What the phases P5 and P6 leave of variant LR (R132, R141). -/
theorem fetched_of_lr {s : State} (hs : s.config.system = .lr) (bytes : List Byte) :
    s.fetched bytes = { s with
      lr := { s.lr with ime := s.lr.ime || s.lr.eiPending, eiPending := false }
      lastOpcode := some ⟨s.lr.pc, bytes⟩ } := by
  simp only [State.fetched, commitEi_eq, State.pc, hs]
  rfl

/-- `IME` is 1 after an instruction started with it, unless that is `DI` (R46). -/
theorem specialAfter_ime {i : Instr} {s : State} {a : Special} (ha : a = specialAfter i s a) (h : s.lr.ime = true) :
    a.ime = decide (i ≠ .lrDi) := by
  by_cases hi : i = .lrDi
  · subst hi
    rw [ha]
    rfl
  · rw [decide_eq_true hi]
    by_contra hne
    obtain rfl | rfl := writers_ime ha (h ▸ hne)
    · exact hi rfl
    · exact hne (ha ▸ rfl)

/-- `ei_pending` is 0 after an instruction started with it, unless that is `EI` (R48). -/
theorem specialAfter_eiPending {i : Instr} {s : State} {a : Special} (ha : a = specialAfter i s a)
    (h : s.lr.eiPending = false) : a.eiPending = decide (i = .lrEi) := by
  by_cases hi : i = .lrEi
  · subst hi
    rw [ha]
    rfl
  · rw [decide_eq_false hi]
    by_contra hne
    obtain rfl | rfl := writers_eiPending ha (h ▸ hne)
    · exact hi rfl
    · exact hne (ha ▸ rfl)

end Sys2Proof.Machine

section
open Sys2Proof Sys2Proof.Machine

/-- Settles O11: the gates leave a crashed or waiting core as it is, and only an instruction of variant LR stops
a running one. -/
theorem statusEdges : Obligations.StatusEdges := by
  intro s t h
  refine ⟨fun f => step_status_of_crashed h, fun hs => ?_, fun hs hne => ?_, fun f ht hne => ?_,
    lr_of_step_stopped h⟩
  · have hw : s.wakeCheck = s := wakeCheck_of_not_halted (by simp [hs])
    exact (step_status_of_waiting h (by rw [hw, hs]; rfl) (by rw [hs]; rfl)).trans ((congrArg State.status hw).trans hs)
  · have hw : s.wakeCheck.status = .halted := ((wakeCheck_status s).resolve_right hne).trans hs
    exact (step_status_of_waiting h (by rw [hw]; rfl) (by rw [hs]; rfl)).trans hw
  · have hc := isCrashed_of_status_ne h fun he => hne (he.symm.trans ht)
    refine (running_or_waiting (isCrashed_wakeCheck hc)).resolve_right fun hw => ?_
    rw [← step_status_of_waiting h hw hc, ht] at hw
    cases hw

/-- Settles O20: no interrupt is due before the EI commit, and the instruction decoded starts with `IME` set. -/
theorem eiDelay : Obligations.EiDelay := by
  intro s t bytes rest i hsys hst hime hei hskip hf hd hstep hok
  have hwake : s.wakeCheck = s := wakeCheck_of_not_halted (by simp [hst])
  have hdisp : s.dispatches = false := by simp [State.dispatches, hsys, State.interruptDue, hime]
  rw [step_of_not_crashed (by simp [hst, isCrashed]), hwake, afterWake_of_running hst hdisp] at hstep
  obtain ⟨f, hcr⟩ | ⟨bytes', i', rest', hf', hd', hend⟩ := instructionStep_cases hstep
  · simp [hcr, isCrashed] at hok
  · cases hf.symm.trans hf'
    rw [hsys] at hd'
    cases hd.symm.trans hd'
    rw [fetched_of_lr hsys] at hend
    obtain ⟨hk, -⟩ | ⟨-, hx⟩ := hend
    · simp [State.skips, hsys, hskip] at hk
    · obtain ⟨f, rfl⟩ | hs := exec_special hx
      · simp [isCrashed] at hok
      · exact ⟨lastOpcode_of_specialAfter hs, specialAfter_ime hs (by simp [hime, hei]),
          specialAfter_eiPending hs rfl⟩

end

/-! Proofs of the statements on memory: the readouts of the host, a byte read after a write, control transfer of
variant C8, calls and returns, and the failures of variant LR. -/

namespace Sys2Proof.Machine

/-! ## The pixels read out (R91) -/

theorem length_presentFb (fb : Framebuffer) : (presentFb fb).length = 2048 := by
  simp [presentFb, List.length_flatMap]

theorem presentFb_eq_flatMap (fb : Framebuffer) : presentFb fb = (fb.flatMap (·.map pixelColor)).toList := by
  simp only [presentFb, Vector.flatMap, Vector.toList]
  simp [Array.toList_flatMap]

/-- Pixel `(x, y)` is shown at place `64 * y + x`. -/
theorem getElem?_presentFb (fb : Framebuffer) (y : Fin 32) (x : Fin 64) :
    (presentFb fb)[64 * y.val + x.val]? = some (pixelColor fb[y.val][x.val]) := by
  have hlt : 64 * y.val + x.val < 32 * 64 := by omega
  have hdiv : (64 * y.val + x.val) / 64 = y.val := by omega
  have hmod : (64 * y.val + x.val) % 64 = x.val := by omega
  simp only [presentFb_eq_flatMap, Vector.getElem?_toList, Vector.getElem?_flatMap, hlt, dif_pos, hdiv, hmod,
    Vector.getElem_map]

theorem colorOn_ne_colorOff : Config.colorOn ≠ Config.colorOff := by
  unfold Config.colorOff
  split
  · exact BitVec.ne_not_self (by decide)
  · next h => exact Ne.symm h

theorem readFramebufferCommand_eq (s : State) :
    (s.config.system = .c8 →
      readFramebufferCommand s = .next (s.respond (.pixels 64 32 (presentFb s.c8.fb)))) ∧
    (s.config.system = .lr → readFramebufferCommand s = .refused .noFramebuffer) := by
  constructor <;> intro h <;> simp only [readFramebufferCommand, h]

theorem snapshotOf_eq (s : State) :
    (s.config.system = .c8 → snapshotOf s = .c8 s.c8 s.status s.lastOpcode) ∧
    (s.config.system = .lr → snapshotOf s = .lr s.lr s.status s.lastOpcode) := by
  constructor <;> intro h <;> simp only [snapshotOf, h]

theorem raiseIrqCommand_refused {k : Nat} {s : State} (h : s.config.system = .c8 ∨ 5 ≤ k) :
    raiseIrqCommand k s = .refused (.noSuchIrq k) := by
  unfold raiseIrqCommand
  split
  · rfl
  · next hs => exact if_neg (Nat.not_lt.2 (h.resolve_left (by simp [hs])))

theorem setInputCommand_refused {vec : List Bool} {s : State}
    (h : vec.length ≠ match s.config.system with | .c8 => 16 | .lr => 8) :
    setInputCommand vec s = .refused (.inputLength vec.length) := by
  unfold setInputCommand
  cases hs : s.config.system <;> exact dif_neg (by simpa [hs] using h)

/-! ## One byte of variant C8 (R72, R73) -/

theorem c8WriteFails_eq_false {s : State} {a : Nat} (ha : a ≤ 0xFFF) (hr : s.readOnlyAt a = false) :
    s.c8WriteFails a = false := by
  simp [State.c8WriteFails, c8ReadFails, hr, ha]

theorem c8WriteFails_of_outside (s : State) {a : Nat} (ha : 0xFFF < a) : s.c8WriteFails a = true := by
  simp [State.c8WriteFails, c8ReadFails, ha]

theorem c8WriteFails_of_readOnly {s : State} {a : Nat} (hr : s.readOnlyAt a = true) : s.c8WriteFails a = true := by
  simp [State.c8WriteFails, hr]

theorem firstFailure_zero {fails : Nat → Bool} {a n : Nat} (hn : 0 < n) (h : fails a = true) :
    FirstFailure fails a n 0 :=
  ⟨hn, h, nofun⟩

theorem c8Write_byte_of_fails {s : State} {a : Nat} (h : s.c8WriteFails a = true) (v : Byte) :
    s.c8Write a [v] = .error (.invalidMemoryAccess a) :=
  (c8Write_eq s a [v]).2 0 (firstFailure_zero Nat.one_pos h)

theorem c8Read_byte (s : State) {a : Nat} (ha : a ≤ 0xFFF) : s.c8Read a 1 = .ok [s.c8Byte a] :=
  (c8Read_eq s a 1).1 (.inr (by omega))

theorem c8Read_byte_of_outside (s : State) {a : Nat} (ha : 0xFFF < a) :
    s.c8Read a 1 = .error (.invalidMemoryAccess a) :=
  (c8Read_eq s a 1).2 0 (firstFailure_zero Nat.one_pos (decide_eq_true ha))

/-- A byte written is the byte read (R84). -/
theorem c8Write_byte {s : State} {a : Nat} (h : s.c8WriteFails a = false) (v : Byte) :
    ∃ t, s.c8Write a [v] = .ok t ∧ t.c8Byte a = v ∧ s.Frame [.c8Mem a] t := by
  refine ⟨_, (c8Write_eq s a [v]).1 fun k hk => ?_, ?_, frame_writeCells s a [v]⟩
  · rw [Nat.lt_one_iff.1 hk]
    exact h
  · simp [c8Byte_setC8Mem_writeCells]

end Sys2Proof.Machine

section
open Sys2Proof Sys2Proof.Machine

/-- Settles O28: the readouts only respond, and each refusal is the branch its command takes. -/
theorem readoutsAndRefusals : Obligations.ReadoutsAndRefusals := fun s =>
  ⟨fun h => ⟨presentFb s.c8.fb, length_presentFb _, (readFramebufferCommand_eq s).1 h, getElem?_presentFb _⟩,
    ⟨snapshotOf s, rfl, (snapshotOf_eq s).1, (snapshotOf_eq s).2⟩,
    (readFramebufferCommand_eq s).2, fun _ => raiseIrqCommand_refused, fun _ => setInputCommand_refused,
    colorOn_ne_colorOff⟩

/-- Settles O29: both stores write the one cell of their address, and fail where the access check does. -/
theorem memoryRoundTrip : Obligations.MemoryRoundTrip := by
  intro s v
  refine ⟨fun a ha hr => ?_, fun a ha => ?_, fun a ha hr => ?_, fun a hr => ?_, fun a hr => ?_⟩
  · obtain ⟨t, hw, hv, hf⟩ := c8Write_byte (c8WriteFails_eq_false ha hr) v
    exact ⟨t, hw, hv ▸ c8Read_byte t ha, hf⟩
  · exact ⟨c8Write_byte_of_fails (c8WriteFails_of_outside s ha) v, c8Read_byte_of_outside s ha⟩
  · exact ⟨c8Write_byte_of_fails (c8WriteFails_of_readOnly hr) v, c8Read_byte s ha⟩
  · exact ⟨_, (lrWrite_eq s a v).1 hr, by simp, frame_lrPoke s a v⟩
  · exact (lrWrite_eq s a v).2 hr

end

namespace Sys2Proof.Machine

/-! ## An instruction and the access it makes -/

/-- Where the access `r` fails, `exec i` at `s` fails as it does, with nothing of the instruction kept (R138). -/
def FailsWith {α : Type} (i : Instr) (s : State) (r : Except Failure α) : Prop :=
  ∀ f, r = .error f → exec i s = .next (s.crash f)

/-- An instruction that is one access fails as it does. -/
theorem failsWith_of_finish {i : Instr} {s : State} {n : Nat} {r : Except Failure State}
    (h : exec i s = finish s n r) : FailsWith i s r := by
  rintro f rfl
  exact h

/-- An instruction that goes on after an access fails as it does. -/
theorem failsWith_of_finish_map {α : Type} {i : Instr} {s : State} {n : Nat} {r : Except Failure α}
    {k : α → State} (h : exec i s = finish s n (r.map k)) : FailsWith i s r := by
  rintro f rfl
  exact h

/-- An instruction that goes on after an access which does not fail ends as it does from there. -/
theorem exec_of_finish_map {α : Type} {i : Instr} {s : State} {n : Nat} {r : Except Failure α} {k : α → State}
    {a : α} (h : exec i s = finish s n (r.map k)) (hr : r = .ok a) : exec i s = .next ((k a).respond (.cycles n)) := by
  subst hr
  exact h

/-! ## Control transfer of variant C8 (R80, R81, R150 to R153) -/

theorem zext16_toNat (nnn : BitVec 12) : (zext16 nnn).toNat = nnn.toNat :=
  BitVec.toNat_setWidth_of_le (by decide)

/-- The jump with offset does not wrap: the largest target is 0xFFF + 0xFF. -/
theorem zext16_add_toNat (nnn : BitVec 12) (v : Byte) : (zext16 nnn + v.setWidth 16).toNat = nnn.toNat + v.toNat := by
  have hv : (v.setWidth 16).toNat = v.toNat := BitVec.toNat_setWidth_of_le (by decide)
  rw [BitVec.toNat_add, zext16_toNat, hv]
  omega

/-- An instruction of variant C8 that ends by writing the pc writes nothing else. -/
theorem frame_c8Jump (s : State) (target : Word) (r : Response) :
    s.Frame [.c8Pc] ((s.advanceC8.setC8Pc target).respond r) :=
  (((frame_advanceC8 s).trans (frame_setC8Pc _ target)).trans (frame_respond _ r)).mono (by simp)

/-- A call where an entry of the stack is free (R80, R151). -/
theorem exec_c8Call {s : State} (h : s.c8.sp.val < 16) (nnn : BitVec 12) :
    ∃ t, exec (.c8Call nnn) s = .next t ∧ t.response = .cycles 1 ∧ t.c8.pc = zext16 nnn ∧
      t.c8.sp.val = s.c8.sp.val + 1 ∧ t.c8.stack[s.c8.sp.val] = s.c8.pc + 2#16 ∧
      s.Frame [.c8Pc, .c8Sp, .stack ⟨s.c8.sp.val, h⟩] t := by
  refine ⟨_, exec_of_finish_map rfl ((push_eq s.advanceC8 (s.c8.pc + 2#16)).1 h), rfl, rfl, rfl,
    Vector.getElem_set_self h, ?_⟩
  exact (((((frame_advanceC8 s).trans (frame_setStack _ _ _)).trans (frame_setC8Sp _ _)).trans
    (frame_setC8Pc _ _)).trans (frame_respond _ _)).mono (by simp)

theorem exec_c8Call_of_full {s : State} (h : s.c8.sp.val = 16) (nnn : BitVec 12) :
    exec (.c8Call nnn) s = .next (s.crash (.invalidStackAccess 16)) :=
  failsWith_of_finish_map rfl _ ((push_eq s.advanceC8 (s.c8.pc + 2#16)).2 h)

/-- A return where an entry of the stack is in use (R81, R153). -/
theorem exec_c8Ret {s : State} (h : 0 < s.c8.sp.val) :
    ∃ t, exec .c8Ret s = .next t ∧ t.response = .cycles 1 ∧ t.c8.pc = s.c8.stack[s.c8.sp.val - 1] ∧
      t.c8.sp.val = s.c8.sp.val - 1 ∧ s.Frame [.c8Pc, .c8Sp] t := by
  refine ⟨_, exec_of_finish_map rfl ((pop_eq s.advanceC8).1 h), rfl, rfl, rfl, ?_⟩
  exact ((((frame_advanceC8 s).trans (frame_setC8Sp _ _)).trans (frame_setC8Pc _ _)).trans
    (frame_respond _ _)).mono (by simp)

theorem exec_c8Ret_of_empty {s : State} (h : s.c8.sp.val = 0) :
    exec .c8Ret s = .next (s.crash (.invalidStackAccess 0)) :=
  failsWith_of_finish_map rfl _ ((pop_eq s.advanceC8).2 h)

/-! ## Nested calls of variant C8 -/

theorem execAll_cons {i : Instr} {is : List Instr} {s t : State} (h : exec i s = .next t) :
    execAll (i :: is) s = execAll is t := by
  rw [execAll, h]

theorem execAll_append {is js : List Instr} {s t : State} (h : execAll is s = .next t) :
    execAll (is ++ js) s = execAll js t := by
  induction is generalizing s with
  | nil =>
    cases h
    rfl
  | cons i is ih =>
    rw [execAll] at h
    cases hi : exec i s with
    | next u =>
      rw [hi] at h
      exact (execAll_cons hi).trans (ih h)
    | fault r | refused r =>
      rw [hi] at h
      cases h

/-- The stack of variant C8 is the same: the count of entries in use, and each of them. -/
def State.SameStack (s t : State) : Prop :=
  t.c8.sp = s.c8.sp ∧ ∀ k : Fin 16, k.val < s.c8.sp.val → t.c8.stack[k.val] = s.c8.stack[k.val]

/-- A call, a run that leaves the stack its target found, and a return come to the address after the call, with
the stack as it was. -/
theorem execAll_call_ret (s : State) (nnn : BitVec 12) {body : List Instr} (h : s.c8.sp.val < 16)
    (hbody : ∀ u : State, u.c8.sp.val = s.c8.sp.val + 1 → ∃ t, execAll body u = .next t ∧ u.SameStack t) :
    ∃ t, execAll (.c8Call nnn :: (body ++ [.c8Ret])) s = .next t ∧ t.c8.pc = s.c8.pc + 2#16 ∧ s.SameStack t := by
  obtain ⟨u, hcall, -, -, husp, hutop, huframe⟩ := exec_c8Call h nnn
  obtain ⟨w, hrun, hwsp, hwstack⟩ := hbody u husp
  have hw : w.c8.sp.val = s.c8.sp.val + 1 := (congrArg Fin.val hwsp).trans husp
  obtain ⟨t, hret, -, htpc, htsp, htframe⟩ := exec_c8Ret (s := w) (by omega)
  refine ⟨t, ?_, ?_, Fin.ext (by omega), fun k hk => ?_⟩
  · rw [execAll_cons hcall, execAll_append hrun, execAll_cons hret]
    rfl
  · simp only [htpc, hw, Nat.add_sub_cancel]
    exact (hwstack ⟨s.c8.sp.val, h⟩ (by simp [husp])).trans hutop
  · have htw : t.c8.stack[k.val] = w.c8.stack[k.val] := htframe (.stack k) (by simp)
    have hus : u.c8.stack[k.val] = s.c8.stack[k.val] := huframe (.stack k) (by simp [Fin.ext_iff]; omega)
    exact htw.trans ((hwstack k (by omega)).trans hus)

/-- The first call and the last return enclose the others. -/
theorem calls_rets_cons (nnn : BitVec 12) (targets : List (BitVec 12)) :
    (nnn :: targets).map Instr.c8Call ++ List.replicate (targets.length + 1) .c8Ret =
      .c8Call nnn :: ((targets.map .c8Call ++ List.replicate targets.length .c8Ret) ++ [.c8Ret]) := by
  rw [List.replicate_succ', List.map_cons, List.cons_append, List.append_assoc]

/-- Calls nested as deep as the stack allows, and their returns, leave the stack as it was. -/
theorem execAll_calls_rets (targets : List (BitVec 12)) (s : State) (h : s.c8.sp.val + targets.length ≤ 16) :
    ∃ t, execAll (targets.map .c8Call ++ List.replicate targets.length .c8Ret) s = .next t ∧ s.SameStack t := by
  induction targets generalizing s with
  | nil => exact ⟨s, rfl, rfl, fun _ _ => rfl⟩
  | cons nnn targets ih =>
    rw [List.length_cons] at h
    obtain ⟨t, hrun, -, hstack⟩ := execAll_call_ret s nnn (by omega) fun u hu => ih u (by omega)
    refine ⟨t, ?_, hstack⟩
    rwa [List.length_cons, calls_rets_cons]

/-! ## Push and pop, call and return of variant LR (R82, R83, R346, R348) -/

/-- `Push16` where it does not fail: the word lies below the old pointer, low byte first. -/
theorem push16_of_canPush {s : State} (h : s.CanPush) (v : Word) :
    ∃ t, s.push16 v = .ok t ∧ s.Pushed t v ∧ s.Frame s.pushParts t := by
  have hne : s.lr.sp - 2#16 ≠ s.lr.sp - 1#16 := by bv_omega
  refine ⟨_, (push16_eq s v).1 h, ⟨rfl, by simp, by simp [hne]⟩, ?_⟩
  exact (((frame_setSp s _).trans (frame_lrPoke _ _ _)).trans (frame_lrPoke _ _ _)).mono
    (by simp [State.pushParts])

/-- A word pushed lies on top of the stack. -/
theorem top16_of_pushed {s t : State} {v : Word} (h : s.Pushed t v) : t.top16 = v := by
  obtain ⟨hsp, hhi, hlo⟩ := h
  have hnext : s.lr.sp - 2#16 + 1#16 = s.lr.sp - 1#16 := by bv_omega
  rw [State.top16, hsp, hnext, hhi, hlo]
  exact BitVec.extractLsb'_append_extractLsb' (w := 8) (len := 8)

/-- An instruction of `len` bytes whose operation is a call (R346, R347, R357). -/
theorem callsTo_of_callTo {i : Instr} {s : State} {len cycles : Nat} {target : Word}
    (hi : exec i s = finish s cycles ((s.advanceLr len).callTo target)) (h : s.CanPush) :
    CallsTo i s len cycles target := by
  obtain ⟨t, hpush, hpushed, hframe⟩ := push16_of_canPush (s := s.advanceLr len) h (s.lr.pc + BitVec.ofNat 16 len)
  refine ⟨_, exec_of_finish_map hi hpush, rfl, rfl, hpushed, ?_⟩
  exact ((((frame_advanceLr s len).trans hframe).trans (frame_setLrPc _ target)).trans
    (frame_respond _ _)).mono (by simp [State.pushParts])

/-- An instruction whose operation is a return (R348, R349). -/
theorem returnsWith_of_returnTo {i : Instr} {s : State} {len cycles : Nat}
    (hi : exec i s = finish s cycles (s.advanceLr len).returnTo) (h : s.lr.sp.toNat ≤ 0xFFFD) :
    ReturnsWith i s cycles [] fun _ => True := by
  refine ⟨_, exec_of_finish_map hi ((pop16_eq (s.advanceLr len)).1 h), rfl, rfl, rfl, trivial, ?_⟩
  exact ((((frame_advanceLr s len).trans (frame_setSp _ _)).trans (frame_setLrPc _ _)).trans
    (frame_respond _ _)).mono (by simp)

/-- A call of variant LR and the return from its target. -/
theorem execAll_lrCall_lrRet {s : State} (h : s.CanPush) (a16 : Word) :
    ∃ t, execAll [.lrCall a16, .lrRet] s = .next t ∧ t.lr.pc = s.lr.pc + 3#16 ∧ t.lr.sp = s.lr.sp := by
  obtain ⟨u, hcall, -, -, hpushed, -⟩ := callsTo_of_callTo (i := .lrCall a16) rfl h
  obtain ⟨h2, -⟩ := h
  have husp : u.lr.sp = s.lr.sp - 2#16 := hpushed.1
  have hroom : u.lr.sp.toNat ≤ 0xFFFD := by
    rw [husp]
    bv_omega
  obtain ⟨t, hret, -, htpc, htsp, -⟩ := returnsWith_of_returnTo (i := .lrRet) rfl hroom
  refine ⟨t, ?_, htpc.trans (top16_of_pushed hpushed), ?_⟩
  · rw [execAll_cons hcall, execAll_cons hret]
    rfl
  · rw [htsp, husp, BitVec.sub_add_cancel]

/-! ## Failures of variant LR -/

/-- A store to a protected byte (R75). -/
theorem FailsWith.of_protected {i : Instr} {s : State} {len : Nat} {a : Word} {v : Byte}
    (hi : FailsWith i s ((s.advanceLr len).lrWrite a v)) (h : s.readOnlyAt a.toNat = true) :
    exec i s = .next (s.crash (.invalidMemoryAccess a.toNat)) :=
  hi _ ((lrWrite_eq _ a v).2 h)

theorem highPage_toNat (a8 : Byte) : (highPage a8).toNat = 0xFF00 + a8.toNat := by
  rw [highPage, BitVec.toNat_append]
  exact (Nat.shiftLeft_add_eq_or_of_lt a8.isLt 0xFF).symm

/-- Such a store in the last page (R232, R234). -/
theorem FailsWith.of_protected_highPage {i : Instr} {s : State} {len : Nat} {a8 v : Byte}
    (hi : FailsWith i s ((s.advanceLr len).lrWrite (highPage a8) v)) (h : s.readOnlyAt (0xFF00 + a8.toNat) = true) :
    exec i s = .next (s.crash (.invalidMemoryAccess (0xFF00 + a8.toNat))) := by
  rw [← highPage_toNat] at h ⊢
  exact hi.of_protected h

/-- The instructions that store through `HL` fail where that store does. -/
theorem failsWith_store_hl (src : Reg8) (d8 : Byte) (b : Fin 8) (s : State) :
    ∀ i ∈ [Instr.lrLdMR src, .lrLdMN d8, .lrLdHliA, .lrLdHldA, .lrIncM, .lrDecM, .lrRlcM, .lrRrcM, .lrRlM,
      .lrRrM, .lrSlaM, .lrSraM, .lrSwapM, .lrSrlM, .lrResM b, .lrSetM b],
      ∃ len v, FailsWith i s ((s.advanceLr len).lrWrite s.hl v) := by
  simp only [List.forall_mem_cons]
  refine ⟨⟨1, _, failsWith_of_finish rfl⟩, ⟨2, _, failsWith_of_finish rfl⟩, ⟨1, _, failsWith_of_finish_map rfl⟩,
    ⟨1, _, failsWith_of_finish_map rfl⟩, ⟨1, _, failsWith_of_finish_map rfl⟩, ⟨1, _, failsWith_of_finish_map rfl⟩,
    ⟨2, _, failsWith_of_finish_map rfl⟩, ⟨2, _, failsWith_of_finish_map rfl⟩, ⟨2, _, failsWith_of_finish_map rfl⟩,
    ⟨2, _, failsWith_of_finish_map rfl⟩, ⟨2, _, failsWith_of_finish_map rfl⟩, ⟨2, _, failsWith_of_finish_map rfl⟩,
    ⟨2, _, failsWith_of_finish_map rfl⟩, ⟨2, _, failsWith_of_finish_map rfl⟩, ⟨2, _, failsWith_of_finish rfl⟩,
    ⟨2, _, failsWith_of_finish rfl⟩, nofun⟩

/-- The instructions that push, a conditional one where its condition holds, fail where the push does. -/
theorem failsWith_push16 (p : StackPair) (a16 : Word) (n : Fin 8) (cc : Cond) (s : State) :
    ∀ i ∈ [Instr.lrPush p, .lrCall a16, .lrRst n] ++ (if s.cond cc then [.lrCallCc cc a16] else []),
      ∃ len v, FailsWith i s ((s.advanceLr len).push16 v) := by
  simp only [List.forall_mem_append, List.forall_mem_cons]
  refine ⟨⟨⟨1, _, failsWith_of_finish rfl⟩, ⟨3, _, failsWith_of_finish_map rfl⟩,
    ⟨1, _, failsWith_of_finish_map rfl⟩, nofun⟩, fun i hi => ?_⟩
  rw [List.mem_ite_nil_right, List.mem_singleton] at hi
  obtain ⟨hcond, rfl⟩ := hi
  exact ⟨3, _, failsWith_of_finish_map (if_pos hcond)⟩

/-- The instructions that pop, a conditional one where its condition holds, fail where the pop does. -/
theorem failsWith_pop16 (p : StackPair) (cc : Cond) (s : State) :
    ∀ i ∈ [Instr.lrPop p, .lrPopAf, .lrRet, .lrReti] ++ (if s.cond cc then [.lrRetCc cc] else []),
      ∃ len, FailsWith i s (s.advanceLr len).pop16 := by
  simp only [List.forall_mem_append, List.forall_mem_cons]
  refine ⟨⟨⟨1, failsWith_of_finish_map rfl⟩, ⟨1, failsWith_of_finish_map rfl⟩, ⟨1, failsWith_of_finish_map rfl⟩,
    ⟨1, failsWith_of_finish_map rfl⟩, nofun⟩, fun i hi => ?_⟩
  rw [List.mem_ite_nil_right, List.mem_singleton] at hi
  obtain ⟨hcond, rfl⟩ := hi
  exact ⟨1, failsWith_of_finish_map (if_pos hcond)⟩

end Sys2Proof.Machine

section
open Sys2Proof Sys2Proof.Machine

/-- Settles O30: the jumps write the pc, the call and the return push and pop as the stack allows. -/
theorem c8Control : Obligations.C8Control := by
  intro nnn s
  refine ⟨⟨_, rfl, rfl, zext16_toNat nnn, frame_c8Jump s _ _⟩,
    ⟨_, rfl, rfl, zext16_add_toNat nnn (s.vx 0), frame_c8Jump s _ _⟩, fun h => ?_,
    fun h => exec_c8Call_of_full (congrArg Fin.val h) nnn, fun h => exec_c8Ret h,
    fun h => exec_c8Ret_of_empty (congrArg Fin.val h)⟩
  obtain ⟨t, ht, hr, hpc, hrest⟩ := exec_c8Call h nnn
  exact ⟨t, ht, hr, hpc ▸ zext16_toNat nnn, hrest⟩

/-- Settles O31: by induction on the nested calls on variant C8, each with its return around the inner ones. -/
theorem callReturnRoundTrip : Obligations.CallReturnRoundTrip := by
  refine fun s => ⟨fun nnn targets h => ?_, fun a16 h => execAll_lrCall_lrRet h a16⟩
  obtain ⟨t, hrun, hpc, hsp, -⟩ := execAll_call_ret s nnn (by omega) fun u hu =>
    execAll_calls_rets targets u (by omega)
  refine ⟨t, ?_, hpc, hsp⟩
  rwa [calls_rets_cons]

/-- Settles O42: each instruction fails as its access does, which is checked before anything is kept. -/
theorem lrFailures : Obligations.LrFailures := by
  intro src d8 a16 b n p cc s
  have hbc : FailsWith .lrLdBcA s ((s.advanceLr 1).lrWrite s.bc s.lr.a) := failsWith_of_finish rfl
  have hde : FailsWith .lrLdDeA s ((s.advanceLr 1).lrWrite s.de s.lr.a) := failsWith_of_finish rfl
  have hd8 : FailsWith (.lrLdhA8A d8) s ((s.advanceLr 2).lrWrite (highPage d8) s.lr.a) := failsWith_of_finish rfl
  have hc : FailsWith .lrLdCA s ((s.advanceLr 1).lrWrite (highPage s.lr.c) s.lr.a) := failsWith_of_finish rfl
  have ha : FailsWith (.lrLdA16A a16) s ((s.advanceLr 3).lrWrite a16 s.lr.a) := failsWith_of_finish rfl
  have hsp : FailsWith (.lrLdA16Sp a16) s ((s.advanceLr 3).lrWrite16 a16 s.lr.sp) := failsWith_of_finish rfl
  obtain ⟨-, hlow, hhigh⟩ := lrWrite16_eq (s.advanceLr 3) a16 s.lr.sp
  refine ⟨fun h i hi => ?_, hbc.of_protected, hde.of_protected, hd8.of_protected_highPage, hc.of_protected_highPage,
    fun h => ⟨ha.of_protected h, hsp _ (hlow h)⟩, fun h h' => hsp _ (hhigh h h'), fun i hi => ?_, fun i hi h => ?_⟩
  · obtain ⟨len, v, hf⟩ := failsWith_store_hl src d8 b s i hi
    exact hf.of_protected h
  · obtain ⟨len, v, hf⟩ := failsWith_push16 p a16 n cc s i hi
    exact ⟨fun h => hf _ ((push16_eq (s.advanceLr len) v).2 h),
      fun h2 h => hf _ ((push16_protected (s.advanceLr len) v h2).1 h),
      fun h2 h h' => hf _ ((push16_protected (s.advanceLr len) v h2).2 h h')⟩
  · obtain ⟨len, hf⟩ := failsWith_pop16 p cc s i hi
    exact hf _ ((pop16_eq (s.advanceLr len)).2 h)

end

/-! Proofs of the statements on encoding: the fields of words and bytes, the round trips of both variants, the words
and bytes that are unassigned, how a fetch, a decode or an instruction of variant C8 fails, the prefixed map and the
jumps of variant LR. -/

namespace Sys2Proof

/-! ## The fields of a word of variant C8 (R101, R102) -/

theorem fields_nnn (op : BitVec 4) (nnn : BitVec 12) :
    nibble (op ++ nnn) 12 = op.toFin ∧ fieldNnn (op ++ nnn) = nnn :=
  ⟨congrArg BitVec.toFin BitVec.extractLsb'_append_eq_left, BitVec.extractLsb'_append_eq_right⟩

theorem fields_xkk (op x : BitVec 4) (kk : Byte) :
    nibble (op ++ x ++ kk) 12 = op.toFin ∧ nibble (op ++ x ++ kk) 8 = x.toFin ∧ fieldKk (op ++ x ++ kk) = kk := by
  have hhigh : ∀ lo, 8 ≤ lo → nibble (op ++ x ++ kk) lo = ((op ++ x).extractLsb' (lo - 8) 4).toFin :=
    fun lo h => congrArg BitVec.toFin (BitVec.extractLsb'_append_eq_of_le h)
  refine ⟨?_, ?_, BitVec.extractLsb'_append_eq_right⟩
  · rw [hhigh 12 (by decide), BitVec.extractLsb'_append_eq_left]
  · rw [hhigh 8 (by decide), BitVec.extractLsb'_append_eq_right]

theorem fields_xyn (op x y n : BitVec 4) :
    nibble (op ++ x ++ y ++ n) 12 = op.toFin ∧ nibble (op ++ x ++ y ++ n) 8 = x.toFin ∧
      nibble (op ++ x ++ y ++ n) 4 = y.toFin ∧ nibble (op ++ x ++ y ++ n) 0 = n.toFin := by
  have hhigh : ∀ lo, 4 ≤ lo → nibble (op ++ x ++ y ++ n) lo = ((op ++ x ++ y).extractLsb' (lo - 4) 4).toFin :=
    fun lo h => congrArg BitVec.toFin (BitVec.extractLsb'_append_eq_of_le h)
  refine ⟨?_, ?_, ?_, congrArg BitVec.toFin BitVec.extractLsb'_append_eq_right⟩
  · rw [hhigh 12 (by decide), BitVec.extractLsb'_append_eq_of_le (by decide), BitVec.extractLsb'_append_eq_left]
  · rw [hhigh 8 (by decide), BitVec.extractLsb'_append_eq_of_le (by decide), BitVec.extractLsb'_append_eq_right]
  · rw [hhigh 4 (by decide), BitVec.extractLsb'_append_eq_right]

/-- Neighbouring fields of a word, put together. -/
theorem fields_append (w : Word) :
    w.extractLsb' 12 4 ++ w.extractLsb' 0 12 = w ∧ w.extractLsb' 8 8 ++ w.extractLsb' 0 8 = w ∧
      w.extractLsb' 4 12 ++ w.extractLsb' 0 4 = w ∧ w.extractLsb' 12 4 ++ w.extractLsb' 8 4 = w.extractLsb' 8 8 ∧
      w.extractLsb' 8 8 ++ w.extractLsb' 4 4 = w.extractLsb' 4 12 :=
  ⟨BitVec.extractLsb'_append_extractLsb' (w := 4) (len := 12),
    BitVec.extractLsb'_append_extractLsb' (w := 8) (len := 8),
    BitVec.extractLsb'_append_extractLsb' (w := 12) (len := 4),
    BitVec.extractLsb'_append_extractLsb'_eq_extractLsb' rfl,
    BitVec.extractLsb'_append_extractLsb'_eq_extractLsb' rfl⟩

section
variable {w : Word} {op : BitVec 4} (hop : (nibble w 12).val = op.toNat)
include hop

/-- A word is its operation and its field `nnn`. -/
theorem formNnn_of_fields {nnn : BitVec 12} (hn : fieldNnn w = nnn) : formNnn op nnn = wordBytes w := by
  obtain ⟨hw, -⟩ := fields_append w
  have hop' : w.extractLsb' 12 4 = op := BitVec.eq_of_toNat_eq hop
  subst hop' hn
  exact congrArg wordBytes hw

/-- A word is its operation and its fields `x` and `kk`. -/
theorem formXkk_of_fields {kk : Byte} (hk : (fieldKk w).toNat = kk.toNat) :
    formXkk op (nibble w 8) kk = wordBytes w := by
  obtain ⟨-, hw, -, hhigh, -⟩ := fields_append w
  have hop' : w.extractLsb' 12 4 = op := BitVec.eq_of_toNat_eq hop
  have hk' : w.extractLsb' 0 8 = kk := BitVec.eq_of_toNat_eq hk
  subst hop' hk'
  exact congrArg wordBytes ((congrArg (· ++ w.extractLsb' 0 8) hhigh).trans hw)

/-- A word is its operation and its fields `x`, `y` and `n`. -/
theorem formXyn_of_fields {n : Fin 16} (hn : (nibble w 0).val = n.val) :
    formXyn op (nibble w 8) (nibble w 4) n = wordBytes w := by
  obtain ⟨-, -, hw, hhigh, hmid⟩ := fields_append w
  have hop' : w.extractLsb' 12 4 = op := BitVec.eq_of_toNat_eq hop
  have hn' : nibble w 0 = n := Fin.ext hn
  subst hop' hn'
  exact congrArg wordBytes ((congrArg (· ++ w.extractLsb' 0 4)
    ((congrArg (· ++ w.extractLsb' 4 4) hhigh).trans hmid)).trans hw)

end

/-! ## Decoding and encoding of variant C8 (R103) -/

theorem wordBytes_append (b0 b1 : Byte) : wordBytes (b0 ++ b1) = [b0, b1] := by
  rw [wordBytes, BitVec.extractLsb'_append_eq_left, BitVec.extractLsb'_append_eq_right]

theorem decode_wordBytes {w : Word} {i : Instr} (rest : List Byte) (h : decodeWord w = some i) :
    decode .c8 (wordBytes w ++ rest) = .ok (i, rest) := by
  obtain ⟨-, hw, -⟩ := fields_append w
  simp only [decode, wordBytes, List.cons_append, List.nil_append, decodeC8, hw, h]

/-- The instruction is well formed and the bytes are its encoding. -/
def Instr.EncodedAs (i : Instr) (bytes : List Byte) : Prop :=
  i.wf = true ∧ encode i = bytes

section
variable {w : Word} {i : Instr}

theorem encodedAs_decodeArith (hop : (nibble w 12).val = 0x8)
    (h : decodeArith (nibble w 8) (nibble w 4) (nibble w 0).val = some i) : i.EncodedAs (wordBytes w) := by
  unfold decodeArith at h
  split at h
  case h_10 => cases h
  all_goals cases h; exact ⟨rfl, formXyn_of_fields hop ‹_›⟩

theorem encodedAs_decodeKey (hop : (nibble w 12).val = 0xE)
    (h : decodeKey (nibble w 8) (fieldKk w).toNat = some i) : i.EncodedAs (wordBytes w) := by
  unfold decodeKey at h
  split at h
  case h_3 => cases h
  all_goals cases h; exact ⟨rfl, formXkk_of_fields hop ‹_›⟩

theorem encodedAs_decodeMisc (hop : (nibble w 12).val = 0xF)
    (h : decodeMisc (nibble w 8) (fieldKk w).toNat = some i) : i.EncodedAs (wordBytes w) := by
  unfold decodeMisc at h
  split at h
  case h_10 => cases h
  all_goals cases h; exact ⟨rfl, formXkk_of_fields hop ‹_›⟩

/-- The rows `CLS` and `RET` are the two words that the row `SYS` excludes (R103). -/
theorem encodedAs_decodeZero (hop : (nibble w 12).val = 0x0) :
    (decodeZero (fieldNnn w)).EncodedAs (wordBytes w) := by
  unfold decodeZero
  split
  · next h0 => exact ⟨rfl, formNnn_of_fields (op := 0x0#4) hop h0⟩
  · next h0 =>
    split
    · next h1 => exact ⟨rfl, formNnn_of_fields (op := 0x0#4) hop h1⟩
    · next h1 => exact ⟨by simp [Instr.wf, sysOperandOk, h0, h1], formNnn_of_fields hop rfl⟩

/-- A word that reads as an instruction is the encoding of it. -/
theorem encodedAs_decodeWord (h : decodeWord w = some i) : i.EncodedAs (wordBytes w) := by
  unfold decodeWord at h
  dsimp only at h
  split at h
  case h_1 hop => cases h; exact encodedAs_decodeZero hop
  case h_9 hop => exact encodedAs_decodeArith hop h
  case h_15 hop => exact encodedAs_decodeKey hop h
  case h_16 =>
    refine encodedAs_decodeMisc ?_ h
    have := (nibble w 12).isLt
    simp only [imp_false] at *
    omega
  case h_6 hop | h_10 hop =>
    split at h
    · next hn => cases h; exact ⟨rfl, formXyn_of_fields hop hn⟩
    · cases h
  case h_14 hop => cases h; exact ⟨rfl, formXyn_of_fields hop rfl⟩
  case h_2 hop | h_3 hop | h_11 hop | h_12 hop => cases h; exact ⟨rfl, formNnn_of_fields hop rfl⟩
  all_goals cases h; exact ⟨rfl, formXkk_of_fields ‹_› rfl⟩

end

/-- What decodes on variant C8 are bytes that begin with the encoding. -/
theorem encodedAs_decodeC8 {bytes rest : List Byte} {i : Instr} (h : decodeC8 bytes = .ok (i, rest)) :
    ∃ bytes', i.EncodedAs bytes' ∧ bytes = bytes' ++ rest := by
  unfold decodeC8 at h
  split at h
  · next b0 b1 rest' =>
    split at h
    · next hw =>
      cases h
      exact ⟨[b0, b1], wordBytes_append b0 b1 ▸ encodedAs_decodeWord hw, rfl⟩
    · cases h
  · cases h

/-! ## A byte of variant LR by its fields (R106) -/

/-- The byte whose fields `xx`, `yyy` and `zzz` are given. -/
def byteOfFields (x : Fin 4) (y z : Fin 8) : Byte :=
  opByte (64 * x.val) (8 * y.val + z.val)

theorem byteOfFields_toNat (x : Fin 4) (y z : Fin 8) :
    (byteOfFields x y z).toNat = 64 * x.val + (8 * y.val + z.val) := by
  rw [byteOfFields, opByte, BitVec.toNat_ofNat]
  omega

theorem exists_byteOfFields (b : Byte) : ∃ x y z, b = byteOfFields x y z := by
  have hb := b.isLt
  refine ⟨⟨b.toNat / 64, by omega⟩, ⟨b.toNat / 8 % 8, by omega⟩, ⟨b.toNat % 8, by omega⟩, BitVec.eq_of_toNat_eq ?_⟩
  rw [byteOfFields_toNat]
  dsimp only
  omega

@[simp] theorem fieldXx_byteOfFields (x : Fin 4) (y z : Fin 8) : fieldXx (byteOfFields x y z) = x.val := by
  rw [fieldXx, BitVec.extractLsb'_toNat, byteOfFields_toNat, Nat.shiftRight_eq_div_pow]
  omega

@[simp] theorem fieldYyy_byteOfFields (x : Fin 4) (y z : Fin 8) : fieldYyy (byteOfFields x y z) = y := by
  apply Fin.ext
  rw [fieldYyy, BitVec.val_toFin, BitVec.extractLsb'_toNat, byteOfFields_toNat, Nat.shiftRight_eq_div_pow]
  omega

@[simp] theorem fieldZzz_byteOfFields (x : Fin 4) (y z : Fin 8) : fieldZzz (byteOfFields x y z) = z.val := by
  rw [fieldZzz, BitVec.extractLsb'_toNat, byteOfFields_toNat, Nat.shiftRight_eq_div_pow]
  omega

/-- How the value of the field `yyy` is added does not matter. -/
theorem opByte_assoc (n y z : Nat) : opByte n (8 * y + z) = opByte (n + 8 * y) z :=
  congrArg (BitVec.ofNat 8) (Nat.add_assoc n (8 * y) z).symm

/-! ## What decodes on variant LR is an encoding -/

theorem regCode_of_regOfCode {c : Nat} {r : Reg8} (h : regOfCode c = some r) : regCode r = c := by
  unfold regOfCode at h
  split at h <;> cases h <;> rfl

theorem eq_six_of_regOfCode {c : Nat} (hc : c < 8) (h : regOfCode c = none) : c = 6 := by
  unfold regOfCode at h
  split at h
  case h_8 =>
    simp only [imp_false] at *
    omega
  all_goals cases h

/-- The instruction of a row pair is encoded with its operand's code where both rows are (R41). -/
theorem encodedAs_onOperand {code : Nat} (hc : code < 8) {f : Reg8 → Instr} {m : Instr} {bytes : Nat → List Byte}
    (hf : ∀ r, (f r).EncodedAs (bytes (regCode r))) (hm : m.EncodedAs (bytes 6)) :
    (onOperand code f m).EncodedAs (bytes code) := by
  unfold onOperand
  cases h : regOfCode code with
  | some r => exact regCode_of_regOfCode h ▸ hf r
  | none => exact eq_six_of_regOfCode hc h ▸ hm

theorem encodedAs_decodeRot (y z : Fin 8) : (decodeRot y.val z.val).EncodedAs (formCb (0x00 + 8 * y.val) z.val) := by
  match y with
  | 0 | 1 | 2 | 3 | 4 | 5 | 6 | 7 => exact encodedAs_onOperand z.isLt (fun r => ⟨rfl, rfl⟩) ⟨rfl, rfl⟩

/-- The rows `BIT`, `RES` and `SET` are encoded with the bit number `yyy` between the row and the operand. -/
theorem encodedAs_bitRow {n : Nat} (y z : Fin 8) {f : Reg8 → Instr} {m : Instr}
    (hf : ∀ r, (f r).EncodedAs (formCb n (8 * y.val + regCode r))) (hm : m.EncodedAs (formCb (n + 6) (8 * y.val))) :
    (onOperand z.val f m).EncodedAs (formCb (n + 8 * y.val) z.val) := by
  refine encodedAs_onOperand z.isLt (fun r => ?_) ?_
  · simpa only [formCb, opByte_assoc] using hf r
  · simpa only [formCb, opByte, Nat.add_right_comm n 6] using hm

/-- Every byte after 0xCB selects the instruction that the two of them encode (R112). -/
theorem encodedAs_decodePrefixed (b1 : Byte) : (decodePrefixed b1).EncodedAs [0xCB#8, b1] := by
  obtain ⟨x, y, z, rfl⟩ := exists_byteOfFields b1
  simp only [decodePrefixed, fieldXx_byteOfFields, fieldYyy_byteOfFields, fieldZzz_byteOfFields]
  rw [byteOfFields, opByte_assoc]
  match x with
  | 0 => exact encodedAs_decodeRot y z
  | 1 => exact encodedAs_bitRow (n := 0x40) y z (fun _ => ⟨rfl, rfl⟩) ⟨rfl, rfl⟩
  | 2 => exact encodedAs_bitRow (n := 0x80) y z (fun _ => ⟨rfl, rfl⟩) ⟨rfl, rfl⟩
  | 3 => exact encodedAs_bitRow (n := 0xC0) y z (fun _ => ⟨rfl, rfl⟩) ⟨rfl, rfl⟩

theorem encodedAs_decodeAlu (y z : Fin 8) : (decodeAlu y.val z.val).EncodedAs [byteOfFields 2 y z] := by
  rw [byteOfFields, opByte_assoc]
  match y with
  | 0 | 1 | 2 | 3 | 4 | 5 | 6 | 7 =>
    exact encodedAs_onOperand (bytes := fun c => [opByte _ c]) z.isLt (fun r => ⟨rfl, rfl⟩) ⟨rfl, rfl⟩

/-- Quadrant 0 row by row, one literal first byte at a time. -/
theorem encodedAs_decodeQuadrant0 (y z : Fin 8) (imm : Word) :
    (decodeQuadrant0 (byteOfFields 0 y z) (imm.extractLsb' 0 8) imm).EncodedAs
      ((form3 (byteOfFields 0 y z) imm).take (lengthByFirst (byteOfFields 0 y z))) := by
  match z with
  | 0 | 1 | 2 | 3 | 4 | 5 | 6 | 7 =>
    match y with
    | 0 | 1 | 2 | 3 | 4 | 5 | 6 | 7 => exact ⟨rfl, rfl⟩

/-- Quadrant 1 row by row, one literal first byte at a time. -/
theorem encodedAs_decodeQuadrant1 (y z : Fin 8) (imm : Word) :
    (decodeQuadrant1 (byteOfFields 1 y z)).EncodedAs
      ((form3 (byteOfFields 1 y z) imm).take (lengthByFirst (byteOfFields 1 y z))) := by
  match z with
  | 0 | 1 | 2 | 3 | 4 | 5 | 6 | 7 =>
    match y with
    | 0 | 1 | 2 | 3 | 4 | 5 | 6 | 7 => exact ⟨rfl, rfl⟩

/-- Quadrant 3 row by row: the unassigned bytes lie in the rows 3, 4 and 5, the prefix in row 3. -/
theorem decodeQuadrant3_eq_some (y z : Fin 8) (imm : Word) (h : byteOfFields 3 y z ∉ unassignedBytes) :
    ∃ i, decodeQuadrant3 (byteOfFields 3 y z) (imm.extractLsb' 0 8) imm = some i ∧ i.EncodedAs
      ((form3 (byteOfFields 3 y z) imm).take (lengthByFirst (byteOfFields 3 y z))) := by
  match z with
  | 0 | 1 | 2 | 6 | 7 =>
    match y with
    | 0 | 1 | 2 | 3 | 4 | 5 | 6 | 7 => exact ⟨_, rfl, rfl, rfl⟩
  | 3 =>
    match y with
    | 0 | 6 | 7 => exact ⟨_, rfl, rfl, rfl⟩
    | 1 => exact ⟨_, rfl, encodedAs_decodePrefixed _⟩
    | 2 | 3 | 4 | 5 => exact absurd (by decide) h
  | 4 =>
    match y with
    | 0 | 1 | 2 | 3 => exact ⟨_, rfl, rfl, rfl⟩
    | 4 | 5 | 6 | 7 => exact absurd (by decide) h
  | 5 =>
    match y with
    | 0 | 1 | 2 | 4 | 6 => exact ⟨_, rfl, rfl, rfl⟩
    | 3 | 5 | 7 => exact absurd (by decide) h

theorem lengthByFirst_alu : ∀ y z : Fin 8, lengthByFirst (byteOfFields 2 y z) = 1 := by
  decide

/-- A first byte that is not one of the eleven starts an instruction, whatever bytes follow, and they are its
encoding as far as the first byte says (R110, R111, R113). -/
theorem decodeBytes_eq_some {b0 : Byte} (b1 b2 : Byte) (h : b0 ∉ unassignedBytes) :
    ∃ i, decodeBytes b0 b1 b2 = some i ∧ i.EncodedAs ([b0, b1, b2].take (lengthByFirst b0)) := by
  obtain ⟨x, y, z, rfl⟩ := exists_byteOfFields b0
  have h1 : (b2 ++ b1).extractLsb' 0 8 = b1 := BitVec.extractLsb'_append_eq_right
  have h2 : (b2 ++ b1).extractLsb' 8 8 = b2 := BitVec.extractLsb'_append_eq_left
  have hbytes : ∀ b, [b, b1, b2] = form3 b (b2 ++ b1) := fun b => by rw [form3, h1, h2]
  simp only [decodeBytes, fieldXx_byteOfFields, fieldYyy_byteOfFields, fieldZzz_byteOfFields, hbytes]
  match x with
  | 0 => exact ⟨_, rfl, by simpa only [h1] using encodedAs_decodeQuadrant0 y z (b2 ++ b1)⟩
  | 1 => exact ⟨_, rfl, encodedAs_decodeQuadrant1 y z (b2 ++ b1)⟩
  | 2 => exact ⟨_, rfl, lengthByFirst_alu y z ▸ encodedAs_decodeAlu y z⟩
  | 3 => simpa only [h1] using decodeQuadrant3_eq_some y z (b2 ++ b1) h

/-- An encoding is as long as its instruction (R100, R111). -/
theorem encode_length (i : Instr) : (encode i).length = i.length := by
  cases i <;> rfl

theorem lengthByFirst_le (b0 : Byte) : 1 ≤ lengthByFirst b0 ∧ lengthByFirst b0 ≤ 3 := by
  unfold lengthByFirst
  split
  · decide
  · split <;> decide

theorem decodeBytes_of_unassigned {b0 : Byte} (b1 b2 : Byte) (h : b0 ∈ unassignedBytes) :
    decodeBytes b0 b1 b2 = none := by
  simp only [unassignedBytes, List.mem_cons, List.not_mem_nil, or_false] at h
  obtain rfl | rfl | rfl | rfl | rfl | rfl | rfl | rfl | rfl | rfl | rfl := h <;> rfl

/-- An instruction that the opcode map has at a first byte is encoded as the bytes read, and is as long as the first
byte says (R111). -/
theorem encodedAs_decodeBytes {b0 b1 b2 : Byte} {i : Instr} (h : decodeBytes b0 b1 b2 = some i) :
    b0 ∉ unassignedBytes ∧ i.EncodedAs ([b0, b1, b2].take (lengthByFirst b0)) ∧ i.length = lengthByFirst b0 := by
  have hb : b0 ∉ unassignedBytes := fun hb => by simp [decodeBytes_of_unassigned b1 b2 hb] at h
  obtain ⟨j, hj, henc⟩ := decodeBytes_eq_some b1 b2 hb
  cases h.symm.trans hj
  refine ⟨hb, henc, ?_⟩
  rw [← encode_length, henc.2, List.length_take]
  exact Nat.min_eq_left (lengthByFirst_le b0).2

/-- What a decode of variant LR answers: the instruction of the first byte and the two after it, and the bytes after
as many as the first one says (R111). -/
theorem decodeLr_cons_eq_ok_iff {b0 : Byte} {tail rest : List Byte} {i : Instr} :
    decodeLr (b0 :: tail) = .ok (i, rest) ↔
      b0 ∉ unassignedBytes ∧ lengthByFirst b0 ≤ tail.length + 1 ∧
        decodeBytes b0 (tail.getD 0 0#8) (tail.getD 1 0#8) = some i ∧ tail.drop (lengthByFirst b0 - 1) = rest := by
  rw [decodeLr]
  by_cases hb : b0 ∈ unassignedBytes
  · simp [hb]
  by_cases hlen : tail.length + 1 < lengthByFirst b0
  · simp [hb, hlen]
  rw [if_neg hb, if_neg hlen]
  cases decodeBytes b0 (tail.getD 0 0#8) (tail.getD 1 0#8) with
  | none => simp
  | some j => simp [hb, Nat.le_of_not_lt hlen]

/-- The first bytes of a list with at least `n` of them, read with a value for those that are missing. -/
theorem take_getD {b0 : Byte} {tail : List Byte} {n : Nat} (hlen : n ≤ tail.length + 1) (h1 : 1 ≤ n) (h3 : n ≤ 3) :
    [b0, tail.getD 0 0#8, tail.getD 1 0#8].take n ++ tail.drop (n - 1) = b0 :: tail := by
  match n with
  | 1 => rfl
  | 2 =>
    match tail with
    | b1 :: rest => rfl
  | 3 =>
    match tail with
    | b1 :: b2 :: rest => rfl

/-- Variant LR: what decodes are bytes that begin with the encoding. -/
theorem encodedAs_decodeLr {bytes rest : List Byte} {i : Instr} (h : decodeLr bytes = .ok (i, rest)) :
    ∃ bytes', i.EncodedAs bytes' ∧ bytes = bytes' ++ rest := by
  cases bytes with
  | nil => cases h
  | cons b0 tail =>
    obtain ⟨-, hlen, hd, rfl⟩ := decodeLr_cons_eq_ok_iff.1 h
    obtain ⟨-, henc, -⟩ := encodedAs_decodeBytes hd
    exact ⟨_, henc, (take_getD hlen (lengthByFirst_le b0).1 (lengthByFirst_le b0).2).symm⟩

/-! ## Every encoding decodes -/

/-- The bytes that encode an instruction decode where the opcode map has it at their first byte. -/
theorem decode_encode_of_decodeBytes {i : Instr} {b0 : Byte} {tail : List Byte} (rest : List Byte)
    (henc : encode i = b0 :: tail)
    (h : decodeBytes b0 ((tail ++ rest).getD 0 0#8) ((tail ++ rest).getD 1 0#8) = some i) :
    decode .lr (encode i ++ rest) = .ok (i, rest) := by
  obtain ⟨hb, -, hlen⟩ := encodedAs_decodeBytes h
  rw [← encode_length, henc, List.length_cons] at hlen
  rw [henc, List.cons_append]
  refine decodeLr_cons_eq_ok_iff.2 ⟨hb, ?_, h, ?_⟩
  · rw [← hlen, List.length_append]
    omega
  · rw [← hlen, Nat.add_sub_cancel, List.drop_left]

/-- A row of format `LR-3` gets its immediate back from the two bytes after the first (R108). -/
theorem decode_encode_form3 {b0 : Byte} {f : Word → Instr} {imm : Word} (rest : List Byte)
    (henc : encode (f imm) = form3 b0 imm) (h : ∀ b1 b2, decodeBytes b0 b1 b2 = some (f (b2 ++ b1))) :
    decode .lr (encode (f imm) ++ rest) = .ok (f imm, rest) := by
  obtain ⟨-, himm, -⟩ := fields_append imm
  exact decode_encode_of_decodeBytes rest henc ((h _ _).trans (congrArg (fun w => some (f w)) himm))

/-- The bytes of format `LR-CB` read as the second one selects (R112). -/
theorem decode_encode_formCb {fixed fields : Nat} {i : Instr} (rest : List Byte)
    (henc : encode i = formCb fixed fields) (h : decodePrefixed (opByte fixed fields) = i) :
    decode .lr (encode i ++ rest) = .ok (i, rest) :=
  decode_encode_of_decodeBytes rest henc (congrArg some h)

/-- The rows by the format of their encoding (R102, R107). Of a word of variant C8 the fields are read; the first byte
of variant LR, or the second one after 0xCB, is one literal for each register, pair, condition or number in it. -/
theorem decode_encode (i : Instr) (rest : List Byte) (hwf : i.wf = true) :
    decode i.system (encode i ++ rest) = .ok (i, rest) := by
  cases i with
  | c8Cls | c8Ret => rfl
  | c8Sys nnn =>
    obtain ⟨h0, h1⟩ : nnn ≠ 0x0E0#12 ∧ nnn ≠ 0x0EE#12 := by simpa [Instr.wf, sysOperandOk] using hwf
    exact decode_wordBytes rest (by simp [decodeWord, fields_nnn, decodeZero, h0, h1])
  | c8Jp | c8Call | c8JpV0 | c8LdI => exact decode_wordBytes rest (by simp [decodeWord, fields_nnn])
  | c8SeImm | c8SneImm | c8LdImm | c8AddImm | c8Rnd => exact decode_wordBytes rest (by simp [decodeWord, fields_xkk])
  | c8Skp | c8Sknp => exact decode_wordBytes rest (by simp [decodeWord, fields_xkk, decodeKey])
  | c8LdVxDt | c8LdVxK | c8LdDtVx | c8LdStVx | c8AddI | c8LdF | c8LdB | c8StoreRegs | c8LoadRegs =>
    exact decode_wordBytes rest (by simp [decodeWord, fields_xkk, decodeMisc])
  | c8SeReg | c8SneReg | c8Drw => exact decode_wordBytes rest (by simp [decodeWord, fields_xyn])
  | c8LdReg | c8Or | c8And | c8Xor | c8AddReg | c8Sub | c8Shr | c8Subn | c8Shl =>
    exact decode_wordBytes rest (by simp [decodeWord, fields_xyn, decodeArith])
  | lrPrefixCb => cases hwf
  | lrLdPairN p => exact decode_encode_form3 rest rfl fun b1 b2 => by cases p <;> rfl
  | lrLdA16Sp | lrLdAA16 | lrLdA16A | lrJp | lrCall => exact decode_encode_form3 rest rfl fun b1 b2 => rfl
  | lrJpCc cc | lrCallCc cc => exact decode_encode_form3 rest rfl fun b1 b2 => by cases cc <;> rfl
  | lrBitR b r | lrResR b r | lrSetR b r => exact decode_encode_formCb rest rfl (by cases r <;> revert b <;> decide)
  | lrRlcR r | lrRrcR r | lrRlR r | lrRrR r | lrSlaR r | lrSraR r | lrSwapR r | lrSrlR r =>
    exact decode_encode_formCb rest rfl (by cases r <;> rfl)
  | lrRlcM | lrRrcM | lrRlM | lrRrM | lrSlaM | lrSraM | lrSwapM | lrSrlM => exact decode_encode_formCb rest rfl rfl
  | lrBitM b | lrResM b | lrSetM b => exact decode_encode_formCb rest rfl (by revert b; decide)
  | lrLdRR dst src => exact decode_encode_of_decodeBytes rest rfl (by cases dst <;> cases src <;> rfl)
  | lrPop p =>
    cases p with
    | af => cases hwf
    | bc | de | hl => exact decode_encode_of_decodeBytes rest rfl rfl
  | lrPush p | lrAddHl p | lrIncPair p | lrDecPair p =>
    exact decode_encode_of_decodeBytes rest rfl (by cases p <;> rfl)
  | lrJrCc cc | lrRetCc cc => exact decode_encode_of_decodeBytes rest rfl (by cases cc <;> rfl)
  | lrRst n =>
    exact decode_encode_of_decodeBytes rest rfl (by match n with | 0 | 1 | 2 | 3 | 4 | 5 | 6 | 7 => rfl)
  | lrLdRM r | lrLdMR r | lrLdRN r | lrAddR r | lrAdcR r | lrSubR r | lrSbcR r | lrAndR r | lrXorR r | lrOrR r
  | lrCpR r | lrIncR r | lrDecR r => exact decode_encode_of_decodeBytes rest rfl (by cases r <;> rfl)
  | _ => exact decode_encode_of_decodeBytes rest rfl rfl

/-! ## The words of variant C8 that are unassigned (R104) -/

theorem decodeArith_eq_none_iff (x y n : Fin 16) :
    decodeArith x y n.val = none ↔ n.val ∈ [0x8, 0x9, 0xA, 0xB, 0xC, 0xD, 0xF] := by
  unfold decodeArith
  split
  case h_10 =>
    simp only [imp_false] at *
    simp only [true_iff, List.mem_cons, List.not_mem_nil, or_false]
    omega
  all_goals simp [*]

theorem decodeKey_eq_none_iff (x : VReg) (kk : Nat) : decodeKey x kk = none ↔ kk ∉ [0x9E, 0xA1] := by
  unfold decodeKey
  split <;> simp_all

theorem decodeMisc_eq_none_iff (x : VReg) (kk : Nat) :
    decodeMisc x kk = none ↔ kk ∉ [0x07, 0x0A, 0x15, 0x18, 0x1E, 0x29, 0x33, 0x55, 0x65] := by
  unfold decodeMisc
  split <;> simp_all

theorem fields_toNat (w : Word) :
    (nibble w 12).val = w.toNat / 4096 ∧ (nibble w 0).val = w.toNat % 16 ∧ (fieldKk w).toNat = w.toNat % 256 := by
  have hw := w.isLt
  simp only [nibble, fieldKk, BitVec.val_toFin, BitVec.extractLsb'_toNat, Nat.shiftRight_eq_div_pow]
  omega

/-- Which words no row matches, by the fields the rows read. -/
theorem decodeWord_eq_none_iff (w : Word) : decodeWord w = none ↔
    ((nibble w 12).val = 0x5 ∧ (nibble w 0).val ≠ 0) ∨
    ((nibble w 12).val = 0x8 ∧ (nibble w 0).val ∈ [0x8, 0x9, 0xA, 0xB, 0xC, 0xD, 0xF]) ∨
    ((nibble w 12).val = 0x9 ∧ (nibble w 0).val ≠ 0) ∨
    ((nibble w 12).val = 0xE ∧ (fieldKk w).toNat ∉ [0x9E, 0xA1]) ∨
    ((nibble w 12).val = 0xF ∧ (fieldKk w).toNat ∉ [0x07, 0x0A, 0x15, 0x18, 0x1E, 0x29, 0x33, 0x55, 0x65]) := by
  have hop := (nibble w 12).isLt
  unfold decodeWord
  dsimp only
  rw [← decodeArith_eq_none_iff (nibble w 8) (nibble w 4) (nibble w 0), ← decodeKey_eq_none_iff (nibble w 8),
    ← decodeMisc_eq_none_iff (nibble w 8)]
  split
  case h_16 =>
    have : (nibble w 12).val = 0xF := by
      simp only [imp_false] at *
      omega
    simp [this]
  all_goals simp [*]

end Sys2Proof

namespace Sys2Proof.Machine

/-! ## Failures of a fetch and of a decode (R133, R371) -/

/-- A step whose wake check leaves a core that runs and takes no interrupt starts an instruction. -/
theorem step_of_wakeCheck {s w : State} (hw : s.wakeCheck = w) (hr : w.status = .running) (hd : w.dispatches = false) :
    step s = instructionStep w := by
  have hs : isCrashed s.status = false := by
    by_cases h : s.status = .halted
    · rw [h]
      rfl
    · rw [← wakeCheck_of_not_halted h, hw, hr]
      rfl
  rw [step_of_not_crashed hs, hw, afterWake_of_running hr hd]

theorem pc_eq (s : State) :
    (s.config.system = .c8 → s.pc = s.c8.pc) ∧ (s.config.system = .lr → s.pc = s.lr.pc) := by
  constructor <;> intro h <;> simp only [State.pc, h]

/-- The fetch of variant C8 is the read of two bytes (R133). -/
theorem fetchBytes_of_c8 {s : State} (h : s.config.system = .c8) : s.fetchBytes = s.c8Read s.c8.pc.toNat 2 := by
  simp only [State.fetchBytes, h]

/-- Nothing of variant LR takes part in an instruction of variant C8 (R132, R136). -/
theorem fetched_of_c8 {s : State} (h : s.config.system = .c8) (bytes : List Byte) :
    s.fetched bytes = s.recordFetch s.c8.pc bytes ∧ (s.fetched bytes).skips = false := by
  have hf : s.fetched bytes = s.recordFetch s.c8.pc bytes := by
    simp only [State.fetched, commitEi_eq, h, (pc_eq s).1 h]
  refine ⟨hf, ?_⟩
  rw [hf]
  simp [State.skips, h]

/-- The word of `SYS nnn` is `nnn`, its operation being 0 (R160). -/
theorem encode_c8Sys (nnn : BitVec 12) : encode (.c8Sys nnn) = sysBytes nnn := by
  have hword : (0x0#4 ++ nnn).toNat = nnn.toNat := by
    rw [BitVec.toNat_append]
    simp
  have hhigh : (0x0#4 ++ nnn).extractLsb' 8 8 = (nnn.extractLsb' 8 4).setWidth 8 := by
    apply BitVec.eq_of_toNat_eq
    simp only [BitVec.extractLsb'_toNat, BitVec.toNat_setWidth, hword, Nat.shiftRight_eq_div_pow]
    omega
  have hlow : (0x0#4 ++ nnn).extractLsb' 0 8 = nnn.extractLsb' 0 8 :=
    BitVec.extractLsb'_append_eq_of_add_le (by decide)
  exact congrArg₂ (fun b0 b1 => [b0, b1]) hhigh hlow

/-- `SYS nnn` always fails, with the two bytes of its word (R160). -/
theorem exec_c8Sys (nnn : BitVec 12) (s : State) :
    exec (.c8Sys nnn) s = .next (s.crash (.unrecognizedOpcode s.c8.pc (encode (.c8Sys nnn)))) := by
  rw [encode_c8Sys]
  rfl

/-- A word of variant C8 that is unassigned or of the `SYS` row fails with its bytes (R104, R160). -/
theorem instructionStep_of_c8_word {s : State} {b0 b1 : Byte} (h : s.config.system = .c8)
    (hf : s.fetchBytes = .ok [b0, b1])
    (hw : decodeWord (b0 ++ b1) = none ∨ ∃ nnn, decodeWord (b0 ++ b1) = some (.c8Sys nnn)) :
    instructionStep s =
      .next ((s.recordFetch s.c8.pc [b0, b1]).crash (.unrecognizedOpcode s.c8.pc [b0, b1])) := by
  obtain hw | ⟨nnn, hw⟩ := hw
  · have hd : decode s.config.system [b0, b1] = .error (.unassignedWord (b0 ++ b1)) := by
      simp only [h, decode, decodeC8, hw]
    rw [instructionStep_of_decode_error hf hd, (pc_eq s).1 h]
  · have hd : decode s.config.system [b0, b1] = .ok (.c8Sys nnn, []) := by
      simp only [h, decode, decodeC8, hw]
    obtain ⟨hfetched, hskips⟩ := fetched_of_c8 h [b0, b1]
    have henc : encode (.c8Sys nnn) = [b0, b1] := (encodedAs_decodeWord hw).2.trans (wordBytes_append b0 b1)
    rw [instructionStep_of_decode_ok hf hd, performDecoded, hskips, hfetched, (pc_eq s).1 h, exec_c8Sys, henc]
    rfl

theorem lengthByFirst_of_unassigned : ∀ b0 ∈ unassignedBytes, lengthByFirst b0 = 1 := by
  decide

/-- An unassigned first byte of variant LR is all that is fetched (R113, R134). -/
theorem fetchBytes_of_unassigned {s : State} (h : s.config.system = .lr) (hb : s.lrRead s.lr.pc ∈ unassignedBytes) :
    s.fetchBytes = .ok [s.lrRead s.lr.pc] := by
  simp only [State.fetchBytes, h, lengthByFirst_of_unassigned _ hb]
  simp

/-! ## Failures of variant C8 (R372, R374) -/

/-- An instruction whose store fails at its first refused byte, of as many as it stores (R73). -/
theorem FailsWith.of_c8Write {i : Instr} {s : State} {vs : List Byte} {n k : Nat}
    (hi : FailsWith i s (s.advanceC8.c8Write s.c8.i.toNat vs)) (hn : vs.length = n)
    (hk : FirstFailure s.c8WriteFails s.c8.i.toNat n k) :
    exec i s = .next (s.crash (.invalidMemoryAccess (s.c8.i.toNat + k))) := by
  subst hn
  exact hi _ ((c8Write_eq s.advanceC8 s.c8.i.toNat vs).2 k hk)

/-- An instruction whose read fails at its first byte outside (R72). -/
theorem FailsWith.of_c8Read {i : Instr} {s : State} {n k : Nat}
    (hi : FailsWith i s (s.advanceC8.c8Read s.c8.i.toNat n))
    (hk : FirstFailure (fun a => decide (0xFFF < a)) s.c8.i.toNat n k) :
    exec i s = .next (s.crash (.invalidMemoryAccess (s.c8.i.toNat + k))) :=
  hi _ ((c8Read_eq s.advanceC8 s.c8.i.toNat n).2 k hk)

/-- A number above 15 names no key (R158). -/
theorem keyHeld_of_above {s : State} {x : VReg} (h : 15 < (s.vx x).toNat) :
    s.keyHeld x = .error (.invalidOpcodeUsage (s.vx x)) :=
  dif_neg (by omega)

theorem regsUpTo_length (s : State) (x : VReg) : (s.regsUpTo x).length = x.val + 1 := by
  simp only [State.regsUpTo, List.length_take, Vector.length_toList]
  omega

/-! ## The jumps of variant LR (R340 to R345, R363) -/

/-- An instruction that writes a target to the pc and does nothing else. -/
theorem jumpsTo_of_setLrPc {i : Instr} {s : State} {len cycles : Nat} {target : Word}
    (hi : exec i s = finish s cycles (.ok ((s.advanceLr len).setLrPc target))) : JumpsTo i s cycles target := by
  refine ⟨_, hi, rfl, rfl, ?_⟩
  exact (((frame_advanceLr s len).trans (frame_setLrPc _ target)).trans (frame_respond _ _)).mono (by simp)

/-- An instruction that does nothing but advance the pc. -/
theorem jumpsTo_of_advanceLr {i : Instr} {s : State} {len cycles : Nat}
    (hi : exec i s = finish s cycles (.ok (s.advanceLr len))) :
    JumpsTo i s cycles (s.lr.pc + BitVec.ofNat 16 len) :=
  ⟨_, hi, rfl, rfl, (frame_advanceLr s len).trans (frame_respond _ _)⟩

/-- A relative jump counts from the next instruction (R8, R344). -/
theorem add_sext16 (pc : Word) (e : Byte) :
    pc + 2#16 + sext16 e = BitVec.ofInt 16 ((pc.toNat : Int) + 2 + e.toInt) := by
  rw [BitVec.ofInt_add, BitVec.ofInt_add, BitVec.ofInt_natCast, BitVec.ofNat_toNat, BitVec.setWidth_eq]
  rfl

/-- The conditions as bits of the number in `F` (R43, R109). -/
theorem cond_iff (s : State) :
    (s.cond .z = true ↔ s.lr.f.toNat / 8 % 2 = 1) ∧ (s.cond .nz = true ↔ s.lr.f.toNat / 8 % 2 = 0) ∧
    (s.cond .c = true ↔ s.lr.f.toNat % 2 = 1) ∧ (s.cond .nc = true ↔ s.lr.f.toNat % 2 = 0) := by
  simp [State.cond, State.flags, BitVec.getLsbD, Nat.testBit_eq_decide_div_mod_eq]

/-! ## The prefix byte (R112) -/

/-- A row pair of meanings is the meaning of the row pair of instructions. -/
theorem onCode_eq_exec_onOperand {code : Nat} {f : Reg8 → Instr} {m : Instr} {ef : Reg8 → State → Out}
    {em : State → Out} {s : State} (hf : ∀ r, ef r s = exec (f r) s) (hm : em s = exec m s) :
    onCode code ef em s = exec (onOperand code f m) s := by
  unfold onOperand onCode
  cases regOfCode code with
  | some r => exact hf r
  | none => exact hm

/-- The meaning of the prefix row is that of the instruction the byte selects (log 14). -/
theorem exec_lrPrefixCb (b1 : Byte) (s : State) : exec (.lrPrefixCb b1) s = exec (decodePrefixed b1) s := by
  show execLrPrefixCb b1 s = _
  obtain ⟨x, y, z, rfl⟩ := exists_byteOfFields b1
  simp only [execLrPrefixCb, decodePrefixed, fieldXx_byteOfFields, fieldYyy_byteOfFields, fieldZzz_byteOfFields]
  match x with
  | 0 =>
    match y with
    | 0 | 1 | 2 | 3 | 4 | 5 | 6 | 7 => exact onCode_eq_exec_onOperand (fun _ => rfl) rfl
  | 1 | 2 | 3 => exact onCode_eq_exec_onOperand (fun _ => rfl) rfl

/-- The operation succeeds and writes nothing but an operand and the flags. -/
def WritesOperandOrFlags (s : State) (o : Operand8) (r : Except Failure State) : Prop :=
  ∃ t, r = .ok t ∧ s.Frame (operandParts s o ++ [.flags]) t

theorem exists_setR8 {s : State} {o : Operand8} (h : s.Writable o) (v : Byte) : ∃ t, s.setR8 o v = .ok t := by
  cases o with
  | reg r => exact ⟨_, rfl⟩
  | atHl => exact ⟨_, (lrWrite_eq s s.hl v).1 h⟩

theorem writesOperandOrFlags_setR8 {s : State} {o : Operand8} (h : s.Writable o) (v : Byte) :
    WritesOperandOrFlags s o (s.setR8 o v) := by
  obtain ⟨t, ht⟩ := exists_setR8 h v
  exact ⟨t, ht, (frame_setR8 ht).mono fun _ hp => List.mem_append_left _ hp⟩

theorem writesOperandOrFlags_rotate8 {s : State} {o : Operand8} (h : s.Writable o)
    (rot : Byte → Bool → Byte × Bool) : WritesOperandOrFlags s o (rotate8 rot o s) := by
  obtain ⟨t, ht⟩ := exists_setR8 h (rot (s.r8 o) s.flags.c).1
  exact ⟨_, congrArg (Except.map _) ht, (frame_setR8 ht).trans (frame_setFlags t _)⟩

theorem writesOperandOrFlags_testBit8 (s : State) (o : Operand8) (b : Fin 8) :
    WritesOperandOrFlags s o (testBit8 b o s) :=
  ⟨_, rfl, (frame_setFlags s _).mono (by simp)⟩

/-- What a prefixed instruction that completes leaves of `s` (R112). -/
def CompletesPrefixed (s : State) (i : Instr) : Prop :=
  ∃ t o, exec i s = .next t ∧ s.LrNext t 2 (takenCycles i) ∧ s.Frame (.lrPc :: (operandParts s o ++ [.flags])) t

theorem completesPrefixed_of_finish {s : State} {i : Instr} {o : Operand8} {r : Except Failure State}
    (hr : WritesOperandOrFlags (s.advanceLr 2) o r) (hi : exec i s = finish s (takenCycles i) r) :
    CompletesPrefixed s i := by
  obtain ⟨u, rfl, hu⟩ := hr
  have hparts : operandParts (s.advanceLr 2) o = operandParts s o := by cases o <;> rfl
  rw [hparts] at hu
  have hpc : Part.lrPc.Same (s.advanceLr 2) u := hu .lrPc (by cases o <;> simp [operandParts])
  exact ⟨_, o, hi, ⟨rfl, hpc⟩, (((frame_advanceLr s 2).trans hu).trans (frame_respond u _)).mono (by simp)⟩

/-- A row pair has what both of its rows have. -/
theorem onOperand_cases {P : Instr → Prop} {code : Nat} {f : Reg8 → Instr} {m : Instr} (hf : ∀ r, P (f r)) (hm : P m) :
    P (onOperand code f m) := by
  unfold onOperand
  cases regOfCode code with
  | some r => exact hf r
  | none => exact hm

/-- Every prefixed instruction completes where the byte at `(HL)` is not protected. -/
theorem completesPrefixed_decodePrefixed (b1 : Byte) {s : State} (h : s.readOnlyAt s.hl.toNat = false) :
    CompletesPrefixed s (decodePrefixed b1) := by
  have hw : ∀ o, (s.advanceLr 2).Writable o := fun o => by
    cases o with
    | reg r => trivial
    | atHl => exact h
  obtain ⟨x, y, z, rfl⟩ := exists_byteOfFields b1
  simp only [decodePrefixed, fieldXx_byteOfFields, fieldYyy_byteOfFields, fieldZzz_byteOfFields]
  match x with
  | 0 =>
    have hrot := fun o rot => writesOperandOrFlags_rotate8 (hw o) rot
    match y with
    | 0 | 1 | 2 | 3 | 4 | 5 | 6 | 7 =>
      exact onOperand_cases (fun r => completesPrefixed_of_finish (hrot (.reg r) _) rfl)
        (completesPrefixed_of_finish (hrot .atHl _) rfl)
  | 1 =>
    have hbit := fun o => writesOperandOrFlags_testBit8 (s.advanceLr 2) o y
    exact onOperand_cases (fun r => completesPrefixed_of_finish (hbit (.reg r)) rfl)
      (completesPrefixed_of_finish (hbit .atHl) rfl)
  | 2 | 3 =>
    have hset := fun o v => writesOperandOrFlags_setR8 (hw o) v
    exact onOperand_cases (fun r => completesPrefixed_of_finish (hset (.reg r) _) rfl)
      (completesPrefixed_of_finish (hset .atHl _) rfl)

end Sys2Proof.Machine

section
open Sys2Proof Sys2Proof.Machine

/-- Settles O1: each row is read off from the fields of its word, or from its first byte. -/
theorem decodeEncode : Obligations.DecodeEncode :=
  fun i rest hwf => decode_encode i rest hwf

/-- Settles O2: row by row on variant C8 and first byte by first byte on variant LR. -/
theorem encodeDecode : Obligations.EncodeDecode := by
  intro sys bytes rest i h
  have hb : ∃ bytes', i.EncodedAs bytes' ∧ bytes = bytes' ++ rest := by
    cases sys with
    | c8 => exact encodedAs_decodeC8 h
    | lr => exact encodedAs_decodeLr h
  obtain ⟨-, ⟨hwf, rfl⟩, hbytes⟩ := hb
  exact ⟨hwf, decode_system h, hbytes⟩

/-- Settles O3: each row group refuses the fields that none of its rows has. -/
theorem unassignedWords : Obligations.UnassignedWords := by
  intro w
  obtain ⟨hop, hn, hkk⟩ := fields_toNat w
  simpa only [hop, hn, hkk] using decodeWord_eq_none_iff w

/-- Settles O4: the first byte decides, and an encoding is as long as its instruction. -/
theorem unassignedFirstBytes : Obligations.UnassignedFirstBytes := by
  refine fun b0 => ⟨fun hb rest => if_pos hb, fun hb b1 b2 rest => ?_⟩
  obtain ⟨i, hi, -⟩ := decodeBytes_eq_some b1 b2 hb
  obtain ⟨-, -, hlen⟩ := encodedAs_decodeBytes hi
  have h3 : lengthByFirst b0 ≤ (b1 :: b2 :: rest).length + 1 :=
    (lengthByFirst_le b0).2.trans (Nat.le_add_left 3 rest.length)
  exact ⟨i, decodeLr_cons_eq_ok_iff.2 ⟨hb, h3, hi, rfl⟩, hlen⟩

/-- Settles O18: the fetch is refused at the first byte outside, and what it reads fails to decode, or decodes to
`SYS`, which fails. -/
theorem fetchAndDecodeFailures : Obligations.FetchAndDecodeFailures := by
  intro s w hw hr
  have hc8 : w.config.system = .c8 → step s = instructionStep w := fun h =>
    step_of_wakeCheck hw hr (by simp only [State.dispatches, h])
  have hfetch : w.config.system = .c8 → ∀ k, FirstFailure (fun a => decide (0xFFF < a)) w.c8.pc.toNat 2 k →
      step s = .next (w.crash (.invalidMemoryAccess (w.c8.pc.toNat + k))) := fun h k hk => by
    rw [hc8 h]
    exact instructionStep_of_fetchBytes_error ((fetchBytes_of_c8 h).trans ((c8Read_eq w _ 2).2 k hk))
  refine ⟨fun h hpc => ?_, fun h hpc => ?_, ?_, ?_⟩
  · exact hfetch h 0 (firstFailure_zero Nat.two_pos (decide_eq_true hpc))
  · have := hfetch h 1
    rw [hpc] at this
    exact this ⟨by decide, by decide, by decide⟩
  · rintro b0 b1 h hpc rfl rfl hword
    rw [hc8 h]
    exact instructionStep_of_c8_word h ((fetchBytes_of_c8 h).trans ((c8Read_eq w _ 2).1 (.inr (by omega)))) hword
  · rintro b0 h hdue rfl hb
    have hd : decode w.config.system [w.lrRead w.lr.pc] = .error (.unassignedByte (w.lrRead w.lr.pc)) := by
      rw [h]
      exact if_pos hb
    rw [step_of_wakeCheck hw hr (by simp only [State.dispatches, h, hdue]),
      instructionStep_of_decode_error (fetchBytes_of_unassigned h hb) hd, (pc_eq w).2 h]

/-- Settles O33: each instruction fails as its access does, and `SYS` with the bytes of its word. -/
theorem c8Failures : Obligations.C8Failures := by
  intro x y n nnn s
  have hskp : FailsWith (.c8Skp x) s (s.advanceC8.keyHeld x) := failsWith_of_finish_map rfl
  have hsknp : FailsWith (.c8Sknp x) s (s.advanceC8.keyHeld x) := failsWith_of_finish_map rfl
  have hdigits : FailsWith (.c8LdB x) s (s.advanceC8.c8Write s.c8.i.toNat (decimalDigits (s.vx x))) :=
    failsWith_of_finish rfl
  have hstore : FailsWith (.c8StoreRegs x) s (s.advanceC8.c8Write s.c8.i.toNat (s.regsUpTo x)) :=
    failsWith_of_finish rfl
  have hload : FailsWith (.c8LoadRegs x) s (s.advanceC8.c8Read s.c8.i.toNat (x.val + 1)) := failsWith_of_finish_map rfl
  have hdraw : FailsWith (.c8Drw x y n) s (s.advanceC8.c8Read s.c8.i.toNat n.val) := failsWith_of_finish_map rfl
  refine ⟨fun h => ⟨hskp _ (keyHeld_of_above h), hsknp _ (keyHeld_of_above h), ?_⟩, fun k => hdigits.of_c8Write rfl,
    fun k => hstore.of_c8Write (regsUpTo_length s x), fun k => hload.of_c8Read, fun k => hdraw.of_c8Read,
    _, _, rfl, exec_c8Sys nnn s⟩
  exact congrArg (finish s 1) (if_pos h)

/-- Settles O55: row pair by row pair of the prefixed map, by the fields of the second byte. -/
theorem prefixSelectsPrefixedMap : Obligations.PrefixSelectsPrefixedMap := by
  intro b1 s
  obtain ⟨hwf, henc⟩ := encodedAs_decodePrefixed b1
  rw [exec_lrPrefixCb]
  refine ⟨rfl, ?_, hwf, rfl, fun h => ?_⟩
  · rw [← encode_length, henc]
    rfl
  · obtain ⟨t, o, ht, ⟨hr, hpc⟩, hf⟩ := completesPrefixed_decodePrefixed b1 h
    refine ⟨t, ht, hr, hpc, hf.mono ?_⟩
    cases o with
    | reg r => cases r <;> simp [operandParts]
    | atHl => simp [operandParts]

/-- Settles O56: each jump writes its target to the pc, or only advances it where its condition does not hold. -/
theorem lrJumps : Obligations.LrJumps := by
  intro cc a16 e s rel
  have hrel : rel = s.lr.pc + 2#16 + sext16 e := (add_sext16 s.lr.pc e).symm
  refine ⟨jumpsTo_of_advanceLr (len := 1) rfl, jumpsTo_of_setLrPc (len := 3) rfl,
    jumpsTo_of_setLrPc (len := 1) rfl, hrel ▸ jumpsTo_of_setLrPc (len := 2) rfl, ?_, cond_iff s⟩
  by_cases h : s.cond cc = true
  · rw [if_pos h]
    exact ⟨jumpsTo_of_setLrPc (len := 3) (if_pos h), hrel ▸ jumpsTo_of_setLrPc (len := 2) (if_pos h)⟩
  · rw [if_neg h]
    exact ⟨jumpsTo_of_advanceLr (len := 3) (if_neg h), jumpsTo_of_advanceLr (len := 2) (if_neg h)⟩

/-- Settles O5: the words are literals. -/
theorem decodeWords : Obligations.DecodeWords := by
  unfold Obligations.DecodeWords
  decide

end

/-! Proofs of the statements on the step: what a step answers and what a failure keeps, the gates, the wake checks, the
fetch, the skip and the cycle table. -/

namespace Sys2Proof.Machine

/-! ## The cycles of an instruction (R140, R431) -/

/-- The cycles that `i` answers where it completes from `s`: of a conditional instruction by its condition. -/
def cyclesAt (i : Instr) (s : State) : Nat :=
  match i with
  | .lrJrCc cc _ | .lrJpCc cc _ | .lrCallCc cc _ | .lrRetCc cc =>
    if s.cond cc then takenCycles i else notTakenCycles i
  | _ => takenCycles i

/-- Where both counts agree the condition does not matter. -/
theorem cyclesAt_of_eq {i : Instr} (h : takenCycles i = notTakenCycles i) (s : State) :
    cyclesAt i s = takenCycles i := by
  cases i with
  | lrJrCc | lrJpCc | lrCallCc | lrRetCc => exact ite_eq_left_iff.2 fun _ => h.symm
  | _ => rfl

theorem cycles_byteOfFields : ∀ (x : Fin 4) (y z : Fin 8),
    takenCycles (decodePrefixed (byteOfFields x y z)) = prefixedCycles (byteOfFields x y z) ∧
    notTakenCycles (decodePrefixed (byteOfFields x y z)) = prefixedCycles (byteOfFields x y z) := by
  decide

/-- The second byte gives the cycles of the instruction it selects (R112, R431). -/
theorem cyclesAt_decodePrefixed (b1 : Byte) (s : State) : cyclesAt (decodePrefixed b1) s = prefixedCycles b1 := by
  obtain ⟨x, y, z, rfl⟩ := exists_byteOfFields b1
  obtain ⟨ht, hn⟩ := cycles_byteOfFields x y z
  rw [cyclesAt_of_eq (ht.trans hn.symm), ht]

/-- The answer is that of an instruction of `n` cycles started in `s`. -/
def EndsAfter (n : Nat) (s : State) (o : Out) : Prop :=
  ∃ r, o = finish s n r

theorem endsAfter_runC8 (op : State → Except Failure State) (s : State) : EndsAfter 1 s (runC8 op s) :=
  ⟨_, rfl⟩

theorem endsAfter_runLr (len cycles : Nat) (op : State → Except Failure State) (s : State) :
    EndsAfter cycles s (runLr len cycles op s) :=
  ⟨_, rfl⟩

/-- An instruction under a condition has the cycles of the branch it takes (R363). -/
theorem endsAfter_runLrIf (cc : Cond) (len taken notTaken : Nat) (op : State → Except Failure State) (s : State) :
    EndsAfter (if s.cond cc then taken else notTaken) s (runLrIf cc len taken notTaken op s) := by
  unfold runLrIf
  split
  · exact endsAfter_runLr len taken op s
  · exact endsAfter_runLr len notTaken .ok s

/-- Every instruction but the prefix row ends after its cycles in the table (R137, R431). -/
theorem endsAfter_exec_of_not_prefix {i : Instr} (hi : ∀ b1, i ≠ .lrPrefixCb b1) (s : State) :
    EndsAfter (cyclesAt i s) s (exec i s) := by
  unfold exec
  cases i with
  | lrPrefixCb b1 => exact absurd rfl (hi b1)
  | c8Sys nnn => exact ⟨.error _, rfl⟩
  | c8Ret | c8Jp | c8Call | c8SeImm | c8SneImm | c8SeReg | c8SneReg | c8JpV0 | c8Skp | c8Sknp | c8LdImm | c8AddImm
  | c8LdReg | c8Or | c8And | c8Xor | c8AddReg | c8Sub | c8Shr | c8Subn | c8Shl | c8LdI | c8Rnd | c8AddI | c8Cls | c8Drw
  | c8LdVxDt | c8LdVxK | c8LdDtVx | c8LdStVx | c8LdF | c8LdB | c8StoreRegs | c8LoadRegs => exact endsAfter_runC8 _ s
  | lrJrCc cc | lrJpCc cc | lrCallCc cc | lrRetCc cc => exact endsAfter_runLrIf cc _ _ _ _ s
  | _ => exact endsAfter_runLr _ _ _ s

/-- The prefix row is not well formed, and what its byte selects is (R112). -/
theorem decodePrefixed_ne_prefix (b1 b : Byte) : decodePrefixed b1 ≠ .lrPrefixCb b := fun h => by
  have hwf := (encodedAs_decodePrefixed b1).1
  rw [h] at hwf
  cases hwf

/-- Every instruction ends after its cycles in the table, also the prefix row, which is what its byte selects. -/
theorem endsAfter_exec (i : Instr) (s : State) : EndsAfter (cyclesAt i s) s (exec i s) := by
  by_cases hi : ∀ b1, i ≠ .lrPrefixCb b1
  · exact endsAfter_exec_of_not_prefix hi s
  · obtain ⟨b1, rfl⟩ := not_forall_not.1 hi
    have h := endsAfter_exec_of_not_prefix (decodePrefixed_ne_prefix b1) s
    rw [cyclesAt_decodePrefixed, ← exec_lrPrefixCb] at h
    exact h

/-- An instruction answers its cycles, or fails in the state it started in. -/
theorem exec_cases {i : Instr} {s t : State} (h : exec i s = .next t) :
    t.response = .cycles (cyclesAt i s) ∨ ∃ f, t = s.crash f := by
  obtain ⟨r, hr⟩ := endsAfter_exec i s
  obtain ⟨u, -, hu⟩ | ⟨f, -, hf⟩ := finish_cases s (cyclesAt i s) r
  · cases h.symm.trans (hr.trans hu)
    exact .inl rfl
  · cases h.symm.trans (hr.trans hf)
    exact .inr ⟨f, rfl⟩

/-- Only the conditional instructions have two counts (R431). -/
theorem conditional_of_takenCycles_ne {i : Instr} (h : takenCycles i ≠ notTakenCycles i) :
    (∃ cc e, i = .lrJrCc cc e) ∨ (∃ cc a, i = .lrJpCc cc a) ∨ (∃ cc a, i = .lrCallCc cc a) ∨
    ∃ cc, i = .lrRetCc cc := by
  cases i with
  | lrJrCc | lrJpCc | lrCallCc | lrRetCc => simp
  | _ => exact absurd rfl h

/-! ## What a step answers (R138) -/

/-- What an action from `w` answers: it completes with a cycle count and no crash, or it fails, and then it keeps
nothing but what `last_opcode` records. -/
def AnswersFrom (w : State) (o : Out) : Prop :=
  ∃ t, o = .next t ∧
    ((∃ n, t.response = .cycles n ∧ isCrashed t.status = false) ∨
     ∃ f l, t = State.crash { w with lastOpcode := l } f)

/-- A failure that keeps the whole state it came from. -/
theorem answersFrom_crash (w : State) (f : Failure) : AnswersFrom w (.next (w.crash f)) :=
  ⟨_, rfl, .inr ⟨f, w.lastOpcode, rfl⟩⟩

/-- A failure after the fetch (R141). -/
theorem answersFrom_recordFetch_crash (w : State) (pc : Word) (bytes : List Byte) (f : Failure) :
    AnswersFrom w (.next ((w.recordFetch pc bytes).crash f)) :=
  ⟨_, rfl, .inr ⟨f, some ⟨pc, bytes⟩, rfl⟩⟩

theorem answersFrom_finish {w : State} {n : Nat} {r : Except Failure State}
    (hr : ∀ t, r = .ok t → isCrashed t.status = false) : AnswersFrom w (finish w n r) := by
  cases r with
  | ok t => exact ⟨_, rfl, .inl ⟨n, rfl, hr t rfl⟩⟩
  | error f => exact answersFrom_crash w f

/-- No instruction writes a crash but by failing. -/
theorem isCrashed_of_specialAfter {i : Instr} {s : State} {a : Special} (ha : a = specialAfter i s a)
    (hs : isCrashed s.status = false) : isCrashed a.status = false := by
  rw [ha]
  cases i with
  | c8LdVxK | lrStop => rfl
  | lrHalt =>
    rw [specialAfter_lrHalt]
    dsimp only
    split
    · exact hs
    · rfl
  | _ => exact hs

/-- An instruction started in a core that has not crashed completes or fails. -/
theorem answersFrom_exec {i : Instr} {s : State} (hs : isCrashed s.status = false) : AnswersFrom s (exec i s) := by
  obtain ⟨t, ht, -⟩ := within_exec i s
  rw [ht]
  obtain ⟨f, rfl⟩ | hsp := exec_special ht
  · exact answersFrom_crash s f
  · have hok : isCrashed t.status = false := isCrashed_of_specialAfter hsp hs
    obtain hr | ⟨f, rfl⟩ := exec_cases ht
    · exact ⟨t, rfl, .inl ⟨_, hr, hok⟩⟩
    · cases hok

/-- An answer without a crash is kept (R137). -/
theorem settle_of_not_crashed {base t : State} (h : isCrashed t.status = false) : settle base (.next t) = .next t := by
  cases hst : t.status with
  | crashed f => simp [hst, isCrashed] at h
  | running | halted | stopped => simp only [settle, hst]

/-- A failure is taken in the base (R138). -/
theorem settle_of_crashed {base t : State} {f : Failure} (h : t.status = .crashed f) :
    settle base (.next t) = .next (base.crash f) := by
  simp only [settle, h]

/-- The phases P5 and P6 do not arm a skip. -/
theorem skips_fetched (s : State) (bytes : List Byte) : (s.fetched bytes).skips = s.skips := by
  cases hs : s.config.system with
  | c8 =>
    rw [(fetched_of_c8 hs bytes).2]
    simp only [State.skips, hs]
  | lr => simp only [fetched_of_lr hs, State.skips, hs]

theorem answersFrom_performDecoded {s : State} (i : Instr) (bytes : List Byte) (hs : isCrashed s.status = false) :
    AnswersFrom s (performDecoded i bytes s) := by
  have hs6 : isCrashed (s.fetched bytes).status = false := by rwa [fetched_status]
  unfold performDecoded
  split
  · exact ⟨_, rfl, .inl ⟨_, rfl, hs6⟩⟩
  · obtain ⟨t, ht, ⟨n, hr, hok⟩ | ⟨f, l, rfl⟩⟩ := answersFrom_exec (i := i) hs6
    · rw [ht, settle_of_not_crashed hok]
      exact ⟨t, rfl, .inl ⟨n, hr, hok⟩⟩
    · rw [ht, settle_of_crashed rfl]
      exact answersFrom_recordFetch_crash s _ _ f

theorem answersFrom_instructionStep {s : State} (hs : isCrashed s.status = false) :
    AnswersFrom s (instructionStep s) := by
  cases hf : s.fetchBytes with
  | error f =>
    rw [instructionStep_of_fetchBytes_error hf]
    exact answersFrom_crash s f
  | ok bytes =>
    cases hd : decode s.config.system bytes with
    | error e =>
      rw [instructionStep_of_decode_error hf hd]
      exact answersFrom_recordFetch_crash s _ _ _
    | ok r =>
      rw [instructionStep_of_decode_ok (i := r.1) (rest := r.2) hf hd]
      exact answersFrom_performDecoded r.1 bytes hs

/-- An operation goes on from a state with the special state that the one before left. -/
theorem Leaves.bind_of_special {g : Special → Special} {a : Special} {r : Except Failure State}
    {k : State → Except Failure State} (hr : Leaves (fun _ => a) r) (hk : ∀ t, t.special = a → Leaves g (k t)) :
    Leaves g (r.bind k) := by
  cases r with
  | ok t => exact hk t hr
  | error f => trivial

/-- Taking an interrupt writes `IME` and `SP` of the special state (R385). -/
theorem leaves_enterInterrupt (s : State) (k : Nat) :
    Leaves (fun after => { s.special with ime := false, sp := after.sp }) (s.enterInterrupt k) :=
  (leaves_lrWrite (s.setIme false) ifAddr _).bind_of_special fun t ht => by
    have hpush := (leaves_push16 t t.lr.pc).map fun u => special_setLrPc u (BitVec.ofNat 16 (0x0040 + 8 * k))
    rw [ht] at hpush
    exact hpush

theorem answersFrom_takeInterrupt {s : State} (hs : isCrashed s.status = false) : AnswersFrom s s.takeInterrupt := by
  unfold State.takeInterrupt
  cases leastSource s.pendingSources with
  | none => exact ⟨_, rfl, .inl ⟨20, rfl, hs⟩⟩
  | some k =>
    refine answersFrom_finish fun t ht => ?_
    have hl := leaves_enterInterrupt s k
    rw [ht] at hl
    exact (congrArg (fun a => isCrashed a.status) hl).trans hs

/-- The phases from P3 on complete, or fail and keep what the wake check left (R138). -/
theorem answersFrom_afterWake {s : State} (hs : isCrashed s.status = false) : AnswersFrom s (afterWake s) := by
  unfold afterWake
  split
  · exact ⟨_, rfl, .inl ⟨_, rfl, hs⟩⟩
  · split
    · exact answersFrom_takeInterrupt hs
    · exact answersFrom_instructionStep hs

theorem answersFrom_step {s : State} (hs : s.Safe) : AnswersFrom s.wakeCheck (step s) :=
  step_of_not_crashed hs ▸ answersFrom_afterWake (isCrashed_wakeCheck hs)

/-! ## The wake checks (R395, R396) -/

/-- The wake check of variant C8 where the least held key is `k`. -/
theorem wakeC8_of_leastKey {s : State} {k : VReg} (hs : s.status = .halted) (hk : leastKey s.c8.keys = some k) :
    s.wakeC8 = (s.setV s.c8.waitReg (BitVec.ofNat 8 k.val)).setStatus .running := by
  simp only [State.wakeC8, hs, hk, if_true]

/-- The wake check of variant C8 does nothing to a core that is not `Halted`, or without a key held. -/
theorem wakeC8_of_not_woken {s : State} (h : s.status ≠ .halted ∨ leastKey s.c8.keys = none) : s.wakeC8 = s := by
  unfold State.wakeC8
  split
  · next hs => rw [h.resolve_left (not_not_intro hs)]
  · rfl

theorem frame_wakeC8 (s : State) : s.Frame [.status, .v s.c8.waitReg] s.wakeC8 := by
  unfold State.wakeC8
  split
  · split
    · exact ((frame_setV s _ _).trans (frame_setStatus _ .running)).mono (by simp)
    · exact (State.Frame.refl s).mono (by simp)
  · exact (State.Frame.refl s).mono (by simp)

theorem frame_wakeLr (s : State) : s.Frame [.status] s.wakeLr := by
  rw [wakeLr_eq]
  split
  · exact frame_setStatus s .running
  · exact (State.Frame.refl s).mono (by simp)

/-- A wake check does nothing, or the core runs after it. -/
theorem wakeCheck_cases (s : State) : s.wakeCheck = s ∨ s.wakeCheck.status = .running := by
  cases hsys : s.config.system with
  | c8 =>
    rw [(wakeCheck_eq s).1 hsys]
    by_cases hs : s.status = .halted
    · cases hk : leastKey s.c8.keys with
      | none => exact .inl (wakeC8_of_not_woken (.inr hk))
      | some k => exact .inr (congrArg State.status (wakeC8_of_leastKey hs hk))
    · exact .inl (wakeC8_of_not_woken (.inl hs))
  | lr =>
    rw [(wakeCheck_eq s).2 hsys, wakeLr_eq]
    split
    · exact .inr rfl
    · exact .inl rfl

/-- A wake check that leaves a core waiting does nothing. -/
theorem wakeCheck_of_waiting {s : State} (h : isWaiting s.wakeCheck.status = true) : s.wakeCheck = s := by
  refine (wakeCheck_cases s).resolve_right fun hr => ?_
  rw [hr] at h
  cases h

theorem wakeCheck_draws (s : State) : s.wakeCheck.draws = s.draws := by
  cases hsys : s.config.system with
  | c8 => exact (wakeCheck_eq s).1 hsys ▸ frame_wakeC8 s .draws (by simp)
  | lr => exact (wakeCheck_eq s).2 hsys ▸ frame_wakeLr s .draws (by simp)

/-! ## The crash gate (R131) -/

theorem commands_cons {c : Command} {s t : State} (h : command c s = .next t) (cs : List Command) :
    commands (c :: cs) s = commands cs t := by
  rw [commands, h]

/-- However often a crashed core is given a step, it answers its failure again. -/
theorem commands_steps_of_crashed (n : Nat) {s : State} {f : Failure} (h : s.status = .crashed f) :
    commands (List.replicate (n + 1) .step) s = .next (s.respond (.err f)) := by
  induction n generalizing s with
  | zero => exact commands_cons (c := .step) (step_of_crashed h) []
  | succ n ih => exact (commands_cons (c := .step) (step_of_crashed h) _).trans (ih (s := s.respond (.err f)) h)

/-! ## The fetch (R133, R134) -/

/-- Bytes that lie one after another as the encoding has them are the encoding. -/
theorem map_range_eq_encode {i : Instr} {f : Nat → Byte} {n : Nat} (hn : (encode i).length = n)
    (hf : ∀ (k : Nat) (h : k < (encode i).length), f k = (encode i)[k]) : (List.range n).map f = encode i := by
  subst hn
  refine List.ext_getElem (by simp) fun k _ hk => ?_
  simpa using hf k hk

/-- An encoding of variant C8 is one word (R101). -/
theorem encode_length_of_c8 {i : Instr} (hwf : i.wf = true) (hsys : i.system = .c8) : (encode i).length = 2 := by
  have hd := decode_encode i [] hwf
  rw [hsys, List.append_nil, decode, decodeC8.eq_def] at hd
  split at hd
  · next b0 b1 rest henc =>
    split at hd
    · cases hd
      rw [henc]
      rfl
    · cases hd
  · cases hd

/-- The first byte of an encoding of variant LR says how long it is (R111). -/
theorem encode_eq_cons {i : Instr} (hwf : i.wf = true) (hsys : i.system = .lr) :
    ∃ b0 tail, encode i = b0 :: tail ∧ (encode i).length = lengthByFirst b0 := by
  have hd := decode_encode i [] hwf
  rw [hsys, List.append_nil] at hd
  cases henc : encode i with
  | nil =>
    rw [henc] at hd
    cases hd
  | cons b0 tail =>
    rw [henc] at hd
    obtain ⟨-, -, hb, -⟩ := decodeLr_cons_eq_ok_iff.1 hd
    obtain ⟨-, -, hlen⟩ := encodedAs_decodeBytes hb
    exact ⟨b0, tail, rfl, henc ▸ (encode_length i).trans hlen⟩

/-! ## The skip (R136) -/

theorem frame_commitEi (s : State) : s.Frame [.eiPending, .ime] s.commitEi := by
  unfold State.commitEi
  split
  · exact (State.Frame.refl s).mono (by simp)
  · split
    · exact (frame_setEiPending s false).trans (frame_setIme _ true)
    · exact (State.Frame.refl s).mono (by simp)

theorem frame_skipStep (i : Instr) (s : State) : s.Frame [.lrPc, .skipNext] (skipStep i s) :=
  ((frame_advanceLr s i.length).trans (frame_setSkipNext _ false)).trans (frame_respond _ _)

end Sys2Proof.Machine

section
open Sys2Proof Sys2Proof.Machine

/-- Settles O8: a crashed core repeats its failure, and any other completes or fails. -/
theorem stepAnswers : Obligations.StepAnswers := by
  intro s
  cases hc : isCrashed s.status with
  | true =>
    cases hs : s.status with
    | crashed f => exact ⟨_, step_of_crashed hs, .inr ⟨f, rfl, hs⟩⟩
    | running | halted | stopped => simp [hs, isCrashed] at hc
  | false =>
    obtain ⟨t, ht, hok | ⟨f, l, rfl⟩⟩ := answersFrom_step hc
    · exact ⟨t, ht, .inl hok⟩
    · exact ⟨_, ht, .inr ⟨f, rfl, rfl⟩⟩

/-- Settles O9: what fails is a crash of the state the wake check left, but for `last_opcode`. -/
theorem failureIsAtomic : Obligations.FailureIsAtomic := by
  intro s t f hs hstep hcr
  obtain ⟨u, hu, ⟨n, -, hok⟩ | ⟨g, l, rfl⟩⟩ := answersFrom_step hs
  · cases hstep.symm.trans hu
    simp [hcr, isCrashed] at hok
  · cases hstep.symm.trans hu
    cases hcr
    exact ⟨rfl, rfl, rfl, wakeCheck_draws s, wakeCheck_config s⟩

/-- Settles O10: a crash is repeated step by step, and a core that waits has not been woken. -/
theorem stepGates : Obligations.StepGates := by
  refine ⟨fun s f n h => commands_steps_of_crashed n h, fun s h => ?_⟩
  have hw : isWaiting s.wakeCheck.status = true := by
    obtain h | h := h <;> rw [h] <;> rfl
  have hself := wakeCheck_of_waiting hw
  rw [hself] at h hw
  have hs : isCrashed s.status = false := by
    obtain h | h := h <;> rw [h] <;> rfl
  rw [step_of_not_crashed hs, hself, afterWake_of_waiting hw]
  rfl

/-- Settles O17: as many bytes are fetched as the encoding has, one after another from the pc. -/
theorem fetchReadsEncoding : Obligations.FetchReadsEncoding := by
  intro i s hwf hsys hc8 hlr
  cases hs : s.config.system with
  | c8 =>
    obtain ⟨hpc, hmem⟩ := hc8 hs
    rw [fetchBytes_of_c8 hs, (c8Read_eq s s.c8.pc.toNat 2).1 (.inr (by omega)),
      map_range_eq_encode (encode_length_of_c8 hwf (hsys.trans hs)) hmem]
  | lr =>
    have hmem := hlr hs
    obtain ⟨b0, tail, henc, hlen⟩ := encode_eq_cons hwf (hsys.trans hs)
    have hfirst : s.lrRead s.lr.pc = b0 := by simpa [henc] using hmem 0 (by simp [henc])
    simp only [State.fetchBytes, hs, hfirst]
    rw [map_range_eq_encode hlen hmem]

/-- Settles O19: the step does the EI commit, the fetch and the skip, and nothing else. -/
theorem skipStep_spec : Obligations.SkipStep := by
  intro s bytes rest i hsys hst hdue hskip hf hd
  have hwake : s.wakeCheck = s := wakeCheck_of_not_halted (by simp [hst])
  have hdisp : s.dispatches = false := by simp only [State.dispatches, hsys, hdue]
  have hskips : (s.fetched bytes).skips = true := by
    rw [skips_fetched]
    simp only [State.skips, hsys, hskip]
  have hstep : step s = .next (skipStep i (s.fetched bytes)) := by
    rw [step_of_wakeCheck hwake hst hdisp, instructionStep_of_decode_ok hf (hsys ▸ hd), performDecoded, if_pos hskips]
  have hframe : s.Frame [.lrPc, .skipNext, .lastOpcode, .ime, .eiPending] (skipStep i (s.fetched bytes)) :=
    (((frame_commitEi s).trans (frame_recordFetch _ s.pc bytes)).trans (frame_skipStep i _)).mono (by simp)
  refine ⟨_, hstep, rfl, rfl, ?_, ?_, ?_, ?_, hframe⟩ <;> rw [fetched_of_lr hsys] <;> rfl

/-- Settles O21: an instruction that does not fail ends with its cycles. -/
theorem cycleTable : Obligations.CycleTable := by
  intro i s t h hok
  refine ⟨?_, conditional_of_takenCycles_ne⟩
  obtain hr | ⟨f, rfl⟩ := exec_cases h
  · exact hr
  · exact absurd rfl (hok f)

/-- Settles O23: the least held key and the pending sources say when a core wakes. -/
theorem wakeChecks : Obligations.WakeChecks := by
  intro s
  refine ⟨fun k hs hk hj => ?_, fun h => wakeC8_of_not_woken (h.imp_right (leastKey_eq_none _).2), fun h => ?_,
    fun h => ?_, wakeCheck_eq s⟩
  · rw [← and_assoc]
    refine ⟨?_, frame_wakeC8 s⟩
    rw [wakeC8_of_leastKey hs ((leastKey_eq_some _ k).2 ⟨hk, hj⟩)]
    exact ⟨rfl, (State.vx_setV s _ _ _).trans (if_pos rfl)⟩
  · obtain ⟨hs, hpending⟩ := h
    exact if_pos ⟨hs, (pending_iff s).2 hpending⟩
  · refine if_neg fun ⟨hs, hp⟩ => ?_
    obtain ⟨k, h5, he, hf⟩ := (pending_iff s).1 hp
    obtain hne | hno := h
    · exact hne hs
    · obtain hzero | hzero := hno k h5
      · cases hzero.symm.trans he
      · cases hzero.symm.trans hf

/-- Settles O16: a step that starts an instruction carries it out and settles what it answers. -/
theorem stepRunsDecoded : Obligations.StepRunsDecoded := by
  intro s w t bytes rest i hsafe hw hwait hdisp hskip hf hd hx
  have hrun : w.status = .running := by
    have := running_or_waiting (isCrashed_wakeCheck hsafe)
    rw [hw, hwait] at this
    simpa using this
  have hnot : ¬ (w.fetched bytes).skips = true := by simp [skips_fetched, hskip]
  have hstep : step s = settle (w.recordFetch w.pc bytes) (.next t) := by
    rw [step_of_wakeCheck hw hrun hdisp, instructionStep_of_decode_ok hf hd, performDecoded, if_neg hnot, ← hx]
    rfl
  exact ⟨fun hok => hstep.trans (settle_of_not_crashed hok), fun f hcr => hstep.trans (settle_of_crashed hcr)⟩

end

/-! Proofs of the statements on the skips of variant C8: what a skip leaves, and the condition of each. -/

namespace Sys2Proof.Machine

/-! ## The skips of variant C8 (R154 to R159) -/

/-- A skip passes a second word after the one of the instruction itself, each of two bytes (R100, R135). -/
theorem pc_skipIf_advanceC8 (s : State) (c : Bool) :
    (s.advanceC8.skipIf c).c8.pc = s.c8.pc + if c then 4#16 else 2#16 := by
  cases c with
  | false => rfl
  | true => exact BitVec.add_assoc s.c8.pc 2#16 2#16

theorem frame_skipIf (s : State) (c : Bool) : s.Frame [.c8Pc] (s.skipIf c) := by
  cases c with
  | false => exact (State.Frame.refl s).mono (by simp)
  | true => exact frame_advanceC8 s

/-- An instruction that ends with a skip writes nothing but the pc. -/
theorem skipsWhen_of_skipIf {i : Instr} {s : State} {c : Bool}
    (h : exec i s = .next ((s.advanceC8.skipIf c).respond (.cycles 1))) : SkipsWhen i s c := by
  refine ⟨_, h, rfl, pc_skipIf_advanceC8 s c, ?_⟩
  exact (((frame_advanceC8 s).trans (frame_skipIf _ c)).trans (frame_respond _ _)).mono (by simp)

/-- A number below 16 names a key (R158). -/
theorem keyHeld_of_lt {s : State} {x : VReg} (h : (s.vx x).toNat < 16) :
    s.keyHeld x = .ok s.c8.keys[(s.vx x).toNat] :=
  dif_pos h

end Sys2Proof.Machine

section
open Sys2Proof Sys2Proof.Machine

/-- Settles O32: each ends with the skip its condition decides, bytes being equal where their numbers are. -/
theorem c8Skips : Obligations.C8Skips := by
  intro x y kk s
  simp only [ne_eq, BitVec.toNat_inj]
  refine ⟨skipsWhen_of_skipIf rfl, skipsWhen_of_skipIf rfl, skipsWhen_of_skipIf rfl, skipsWhen_of_skipIf rfl,
    fun h => ?_⟩
  have hkey : s.advanceC8.keyHeld x = .ok s.c8.keys[(s.vx x).toNat] := keyHeld_of_lt (s := s.advanceC8) h
  exact ⟨skipsWhen_of_skipIf (exec_of_finish_map rfl hkey),
    skipsWhen_of_skipIf (exec_of_finish_map (k := fun held => s.advanceC8.skipIf !held) rfl hkey)⟩

end

/-! Proofs of the statements on the moves, the logic, the random draw and the index register of variant C8. -/

namespace Sys2Proof.Machine

/-! ## Instructions of variant C8 that fall through with one write (R135, R137) -/

/-- An instruction of variant C8 that falls through writes the pc and what its operation writes. -/
theorem frame_c8FallThrough {s u : State} {w : List Part} (h : s.advanceC8.Frame w u) (r : Response) :
    s.Frame (.c8Pc :: w) (u.respond r) :=
  (((frame_advanceC8 s).trans h).trans (frame_respond u r)).mono (by simp)

/-- An instruction that ends with one register written writes that register and the pc. -/
theorem writesV_of_setV {i : Instr} {s : State} {x : VReg} {v : Byte}
    (h : exec i s = .next ((s.advanceC8.setV x v).respond (.cycles 1))) : WritesV i s x v :=
  ⟨_, h, ⟨rfl, rfl⟩, (State.vx_setV s.advanceC8 x x v).trans (if_pos rfl), frame_c8FallThrough (frame_setV _ x v) _⟩

/-- An instruction that ends with `I` written writes `I` and the pc. -/
theorem writesI_of_setI {i : Instr} {s : State} {v : Word} {n : Nat}
    (h : exec i s = .next ((s.advanceC8.setI v).respond (.cycles 1))) (hv : v.toNat = n) :
    ∃ t, exec i s = .next t ∧ s.C8Next t ∧ t.c8.i.toNat = n ∧ s.Frame [.c8Pc, .i] t :=
  ⟨_, h, ⟨rfl, rfl⟩, hv, frame_c8FallThrough (frame_setI _ v) _⟩

/-! ## The values written -/

/-- What is masked by `b` has no bit outside `b` (R183). -/
theorem and_and_not_self (a b : Byte) : a &&& b &&& ~~~b = 0x00#8 := by
  rw [BitVec.and_assoc, BitVec.and_not_self]
  exact BitVec.and_zero

/-- `ADD I,Vx` wraps at 16 bits (R185). -/
theorem add_setWidth_toNat (a : Word) (v : Byte) : (a + v.setWidth 16).toNat = (a.toNat + v.toNat) % 65536 := by
  rw [BitVec.toNat_add, BitVec.toNat_setWidth_of_le (by decide)]

/-- A digit up to 15 names a glyph of the font (R207). -/
theorem exec_c8LdF_of_le {s : State} {x : VReg} (h : (s.vx x).toNat ≤ 15) :
    exec (.c8LdF x) s =
      .next ((s.advanceC8.setI (BitVec.ofNat 16 (fontBase + 5 * (s.vx x).toNat))).respond (.cycles 1)) :=
  congrArg (finish s 1) (if_neg (Nat.not_lt.2 h))

/-- The address of a glyph does not wrap (R94). -/
theorem glyphAddress_toNat {d : Nat} (h : d ≤ 15) : (BitVec.ofNat 16 (fontBase + 5 * d)).toNat = 0x050 + 5 * d :=
  (BitVec.toNat_ofNat _ _).trans (Nat.mod_eq_of_lt (by unfold fontBase; omega))

end Sys2Proof.Machine

section
open Sys2Proof Sys2Proof.Machine

/-- Settles O34: each ends with its register written, and the sum of two bytes is that of their numbers. -/
theorem c8MovesAndLogic : Obligations.C8MovesAndLogic := by
  intro x y kk s
  have hsum : s.vx x + kk = BitVec.ofNat 8 ((s.vx x).toNat + kk.toNat) := BitVec.add_def _ _
  exact ⟨writesV_of_setV rfl, hsum ▸ writesV_of_setV rfl, writesV_of_setV rfl, writesV_of_setV rfl,
    writesV_of_setV rfl, writesV_of_setV rfl, writesV_of_setV rfl⟩

/-- Settles O36: the draw is masked, written and counted; the others end with `I` written. -/
theorem c8RandomAndIndex : Obligations.C8RandomAndIndex := by
  intro x kk nnn s
  refine ⟨⟨_, rfl, ⟨rfl, rfl⟩, ?_⟩, writesI_of_setI rfl (zext16_toNat nnn),
    writesI_of_setI rfl (add_setWidth_toNat _ _),
    fun h => writesI_of_setI (exec_c8LdF_of_le h) (glyphAddress_toNat h)⟩
  have hdraw : (s.advanceC8.setV x (Config.randByte s.draws &&& kk)).vx x = Config.randByte s.draws &&& kk :=
    (State.vx_setV _ x x _).trans (if_pos rfl)
  refine ⟨hdraw, ?_, rfl, frame_c8FallThrough ((frame_setV _ x _).trans (frame_countDraw _)) _⟩
  exact (congrArg (· &&& ~~~kk) hdraw).trans (and_and_not_self _ kk)

end

/-! Proofs of the statements on the timer loads, the key wait and the block moves of variant C8. -/

namespace Sys2Proof.Machine

/-! ## Stores of variant C8 (R73, R206, R208) -/

/-- An instruction that stores bytes at `I`, none of them refused, leaves each in its place and writes nothing
else but the pc. -/
theorem storesAtI_of_c8Write {i : Instr} {s : State} {vs : List Byte}
    (h : exec i s = finish s 1 (s.advanceC8.c8Write s.c8.i.toNat vs))
    (hw : ∀ k < vs.length, s.c8WriteFails (s.c8.i.toNat + k) = false) :
    ∃ t, exec i s = .next t ∧ s.C8Next t ∧
      (∀ k (hk : k < vs.length), t.c8Byte (s.c8.i.toNat + k) = vs[k]) ∧
      s.Frame (.c8Pc :: (List.range vs.length).map (fun k => .c8Mem (s.c8.i.toNat + k))) t := by
  have hwrite := (c8Write_eq s.advanceC8 s.c8.i.toNat vs).1 hw
  refine ⟨_, h.trans (congrArg (finish s 1) hwrite), ⟨rfl, rfl⟩, fun k hk => ?_,
    frame_c8FallThrough (frame_writeCells s.advanceC8 _ vs) _⟩
  refine (c8Byte_setC8Mem_writeCells s.advanceC8 _ _ vs).trans ?_
  simp [hk]

/-- The three digits of a byte make it up, and the last two are decimal digits (R206). -/
theorem decimalDigits_toNat (v : Byte) : ∃ d2 d1 d0 : Byte, decimalDigits v = [d2, d1, d0] ∧
    100 * d2.toNat + 10 * d1.toNat + d0.toNat = v.toNat ∧ d1.toNat < 10 ∧ d0.toNat < 10 := by
  have := v.isLt
  refine ⟨_, _, _, rfl, ?_⟩
  simp only [BitVec.toNat_ofNat]
  omega

theorem regsUpTo_getElem (s : State) (x k : VReg) (h : k.val < (s.regsUpTo x).length) :
    (s.regsUpTo x)[k.val] = s.vx k := by
  simp only [State.regsUpTo, List.getElem_take, Vector.getElem_toList, State.vx]

/-! ## The load of registers (R209) -/

/-- The registers a load from `V[k]` on leaves. -/
theorem vx_loadRegs (vs : List Byte) (s : State) (k : Nat) (x : VReg) :
    (loadRegs s k vs).vx x = if h : k ≤ x.val ∧ x.val - k < vs.length then vs[x.val - k] else s.vx x := by
  induction vs generalizing s k with
  | nil => simp [loadRegs]
  | cons v vs ih =>
    have hhead : (if h : k < 16 then s.setV ⟨k, h⟩ v else s).vx x = if x.val = k then v else s.vx x := by
      split
      · simp [Fin.ext_iff]
      · exact (if_neg (by omega)).symm
    rw [loadRegs, ih, hhead]
    rcases Nat.lt_trichotomy k x.val with hk | rfl | hk
    · have hsub : x.val - k = x.val - (k + 1) + 1 := by omega
      simp [hsub, hk, hk.le, hk.ne']
    · simp
    · simp [hk.ne, Nat.not_le.2 hk, Nat.not_le.2 (hk.trans (Nat.lt_succ_self k))]

/-- What a load of `n` registers from `V[0]` on leaves of each. -/
theorem vx_loadRegs_map_range (s : State) (f : Nat → Byte) (n : Nat) (x : VReg) :
    (loadRegs s 0 ((List.range n).map f)).vx x = if x.val < n then f x.val else s.vx x := by
  simp [vx_loadRegs]

/-- A load of registers writes registers only. -/
theorem frame_loadRegs (vs : List Byte) (s : State) (k : Nat) :
    s.Frame ((List.finRange 16).map .v) (loadRegs s k vs) := by
  induction vs generalizing s k with
  | nil => exact (State.Frame.refl s).mono (by simp)
  | cons v vs ih =>
    have hset : s.Frame ((List.finRange 16).map .v) (if h : k < 16 then s.setV ⟨k, h⟩ v else s) := by
      split
      · exact (frame_setV s _ v).mono (by simp)
      · exact (State.Frame.refl s).mono (by simp)
    exact (hset.trans (ih _ (k + 1))).mono (by simp)

/-! ## The sound output (R27) -/

theorem soundOut_iff (s : State) : s.soundOut = true ↔ s.c8.st ≠ 0x00#8 := by
  simp [State.soundOut, Nat.pos_iff_ne_zero, ← BitVec.toNat_inj]

end Sys2Proof.Machine

section
open Sys2Proof Sys2Proof.Machine

/-- Settles O37: each ends with its timer written, the key wait with the status and the register to wake. -/
theorem c8TimersAndWait : Obligations.C8TimersAndWait := by
  intro x s
  exact ⟨⟨_, rfl, ⟨rfl, rfl⟩, rfl, frame_c8FallThrough (frame_setDt _ _) _⟩,
    ⟨_, rfl, ⟨rfl, rfl⟩, rfl, soundOut_iff _, frame_c8FallThrough (frame_setSt _ _) _⟩,
    ⟨_, rfl, ⟨rfl, rfl⟩, rfl, rfl,
      (frame_c8FallThrough ((frame_setWaitReg _ x).trans (frame_setStatus _ _)) _).mono (by simp)⟩⟩

/-- Settles O38: a store that is not refused leaves its bytes at `I`, a load the bytes read there in the registers. -/
theorem c8BlockMoves : Obligations.C8BlockMoves := by
  intro x s
  refine ⟨fun hw => ?digits, fun hw => ?store, fun hr => ?load⟩
  case digits =>
    obtain ⟨d2, d1, d0, hd, hsum, h1, h0⟩ := decimalDigits_toNat (s.vx x)
    obtain ⟨t, ht, hnext, hbytes, hframe⟩ := storesAtI_of_c8Write (i := .c8LdB x) (vs := [d2, d1, d0])
      (hd ▸ rfl) hw
    have hb2 : t.c8Byte s.c8.i.toNat = d2 := hbytes 0 (by simp)
    have hb1 : t.c8Byte (s.c8.i.toNat + 1) = d1 := hbytes 1 (by simp)
    have hb0 : t.c8Byte (s.c8.i.toNat + 2) = d0 := hbytes 2 (by simp)
    rw [← hb2, ← hb1, ← hb0] at hsum
    exact ⟨t, ht, hnext, hsum, hb1 ▸ h1, hb0 ▸ h0, hframe⟩
  case store =>
    have hlen := regsUpTo_length s x
    obtain ⟨t, ht, hnext, hbytes, hframe⟩ := storesAtI_of_c8Write (i := .c8StoreRegs x) (vs := s.regsUpTo x)
      rfl (fun k hk => hw k (Nat.le_of_lt_succ (hk.trans_eq hlen)))
    have hbyte (k : VReg) (hk : k ≤ x) : t.c8Byte (s.c8.i.toNat + k.val) = s.vx k :=
      (hbytes k.val (hlen ▸ Nat.lt_succ_of_le hk)).trans (regsUpTo_getElem s x k _)
    exact ⟨t, ht, hnext, hbyte, hlen ▸ hframe⟩
  case load =>
    have hread := (c8Read_eq s.advanceC8 s.c8.i.toNat (x.val + 1)).1 (.inr (by omega))
    have hframe := frame_loadRegs ((List.range (x.val + 1)).map fun k => s.c8Byte (s.c8.i.toNat + k)) s.advanceC8 0
    exact ⟨_, exec_of_finish_map (k := loadRegs s.advanceC8 0) rfl hread, ⟨rfl, hframe .c8Pc (by simp)⟩,
      fun k hk => (vx_loadRegs_map_range s.advanceC8 _ _ k).trans (if_pos (Nat.lt_succ_of_le hk)),
      fun k hk => (vx_loadRegs_map_range s.advanceC8 _ _ k).trans (if_neg (Nat.not_lt.2 hk)),
      frame_c8FallThrough hframe _⟩

end

/-! Proofs of the statements on the 8-bit loads and stores of variant LR. -/

namespace Sys2Proof.Machine

/-! ## Instructions of variant LR that fall through (R135, R137) -/

/-- An instruction of variant LR writes the pc and what its operation writes. -/
theorem frame_lrFallThrough {s u : State} {len : Nat} {w : List Part} (h : (s.advanceLr len).Frame w u)
    (r : Response) : s.Frame (.lrPc :: w) (u.respond r) :=
  (((frame_advanceLr s len).trans h).trans (frame_respond u r)).mono (by simp)

/-- An instruction that ends with one register written writes that register and the pc. -/
theorem writesReg_of_setReg {i : Instr} {s : State} {len cycles : Nat} {r : Reg8} {v : Byte}
    (h : exec i s = finish s cycles (.ok ((s.advanceLr len).setReg r v))) : WritesReg i s len cycles r v :=
  have hframe := frame_setReg (s.advanceLr len) r v
  ⟨_, h, ⟨rfl, hframe .lrPc (by simp)⟩, (State.reg_setReg _ r r v).trans (if_pos rfl),
    frame_lrFallThrough hframe _⟩

/-- An instruction that stores a byte where it is not protected writes that byte and the pc (R75). -/
theorem storesByte_of_lrWrite {i : Instr} {s : State} {len cycles : Nat} {a : Word} {v : Byte}
    (h : exec i s = finish s cycles ((s.advanceLr len).lrWrite a v)) (ha : s.readOnlyAt a.toNat = false) :
    StoresByte i s len cycles a v := by
  have hwrite := (lrWrite_eq (s.advanceLr len) a v).1 ha
  exact ⟨_, h.trans (congrArg (finish s cycles) hwrite), ⟨rfl, rfl⟩, (lrRead_lrPoke _ a a v).trans (if_pos rfl),
    frame_lrFallThrough (frame_lrPoke _ a v) _⟩

/-! ## The loads and stores that step HL (R235 to R238) -/

/-- `HL` reads as written (R42). -/
theorem hl_setHl (s : State) (w : Word) : (s.setHl w).hl = w :=
  BitVec.extractLsb'_append_extractLsb' (w := 8) (len := 8)

/-- Stepping back by one is stepping on by 65535 (R237, R238). -/
theorem sub_one_toNat (w : Word) : (w - 1#16).toNat = (w.toNat + 65535) % 65536 := by
  rw [BitVec.toNat_sub, Nat.add_comm]
  rfl

/-- An instruction that stores A at `(HL)`, where that is not protected, and then moves HL: the old HL addresses
the byte (R235, R237). -/
theorem storesAtHl_of_lrWrite_setHl {i : Instr} {s : State} {w : Word} {n : Nat}
    (h : exec i s = finish s 8 (((s.advanceLr 1).lrWrite s.hl s.lr.a).map fun u => u.setHl w))
    (ha : s.readOnlyAt s.hl.toNat = false) (hw : w.toNat = n) :
    ∃ t, exec i s = .next t ∧ s.LrNext t 1 8 ∧ t.lrRead s.hl = s.lr.a ∧ t.hl.toNat = n ∧
      s.Frame [.lrPc, .reg .h, .reg .l, .lrMem s.hl] t := by
  have hwrite := (lrWrite_eq (s.advanceLr 1) s.hl s.lr.a).1 ha
  have hframe := frame_setHl ((s.advanceLr 1).lrPoke s.hl s.lr.a) w
  have hread : ((s.advanceLr 1).lrPoke s.hl s.lr.a).lrRead s.hl = s.lr.a := by simp
  exact ⟨_, exec_of_finish_map h hwrite, ⟨rfl, rfl⟩, Eq.trans (hframe (.lrMem s.hl) (by simp)) hread,
    (congrArg _ (hl_setHl _ w)).trans hw,
    (frame_lrFallThrough ((frame_lrPoke _ _ _).trans hframe) _).mono (by simp)⟩

/-- An instruction that loads the byte at `(HL)` into A and then moves HL: the old HL addresses the byte
(R236, R238). -/
theorem loadsFromHl_of_setReg_setHl {i : Instr} {s : State} {w : Word} {n : Nat}
    (h : exec i s = finish s 8 (.ok (((s.advanceLr 1).setReg .a (s.lrRead s.hl)).setHl w))) (hw : w.toNat = n) :
    ∃ t, exec i s = .next t ∧ s.LrNext t 1 8 ∧ t.lr.a = s.lrRead s.hl ∧ t.hl.toNat = n ∧
      s.Frame [.lrPc, .reg .a, .reg .h, .reg .l] t :=
  ⟨_, h, ⟨rfl, rfl⟩, rfl, (congrArg _ (hl_setHl _ w)).trans hw,
    frame_lrFallThrough ((frame_setReg _ .a _).trans (frame_setHl _ w)) _⟩

end Sys2Proof.Machine

section
open Sys2Proof Sys2Proof.Machine

/-- Settles O40: each ends with its register written; the last page is addressed by its low byte. -/
theorem lrLoads : Obligations.LrLoads := by
  intro dst src d8 a16 s
  simp only [← highPage_toNat, BitVec.ofNat_toNat, BitVec.setWidth_eq]
  exact ⟨writesReg_of_setReg rfl, writesReg_of_setReg rfl, writesReg_of_setReg rfl, writesReg_of_setReg rfl,
    writesReg_of_setReg rfl, writesReg_of_setReg rfl, writesReg_of_setReg rfl, writesReg_of_setReg rfl⟩

/-- Settles O41: each ends with its byte stored where that is not protected, HL moving after the access. -/
theorem lrStores : Obligations.LrStores := by
  intro src d8 a16 s
  simp only [← highPage_toNat, BitVec.ofNat_toNat, BitVec.setWidth_eq]
  have hon : (s.hl + 1#16).toNat = (s.hl.toNat + 1) % 65536 := BitVec.toNat_add _ _
  have hback := sub_one_toNat s.hl
  exact ⟨fun h => ⟨storesByte_of_lrWrite rfl h, storesByte_of_lrWrite rfl h⟩,
    storesByte_of_lrWrite rfl, storesByte_of_lrWrite rfl, storesByte_of_lrWrite rfl,
    storesByte_of_lrWrite rfl, storesByte_of_lrWrite rfl,
    fun h => ⟨storesAtHl_of_lrWrite_setHl rfl h hon, storesAtHl_of_lrWrite_setHl rfl h hback⟩,
    loadsFromHl_of_setReg_setHl rfl hon, loadsFromHl_of_setReg_setHl rfl hback⟩

end

/-! Proofs of the statements on the 16-bit loads, the stack instructions and the stack pointer sums of variant LR. -/

namespace Sys2Proof.Machine

/-! ## The bytes of a word (R42, R76) -/

/-- A word is its high byte before its low byte. -/
theorem hiByte_append_loByte (w : Word) : hiByte w ++ loByte w = w :=
  BitVec.extractLsb'_append_extractLsb' (w := 8) (len := 8)

@[simp] theorem hiByte_append (hi lo : Byte) : hiByte (hi ++ lo) = hi :=
  BitVec.extractLsb'_append_eq_left

@[simp] theorem loByte_append (hi lo : Byte) : loByte (hi ++ lo) = lo :=
  BitVec.extractLsb'_append_eq_right

theorem hiByte_toNat (w : Word) : (hiByte w).toNat = w.toNat / 256 := by
  rw [hiByte, BitVec.extractLsb'_toNat, Nat.shiftRight_eq_div_pow]
  omega

theorem loByte_toNat (w : Word) : (loByte w).toNat = w.toNat % 256 := by
  rw [loByte, BitVec.extractLsb'_toNat, Nat.shiftRight_zero]

/-- A byte masked to its low nibble (R43). -/
theorem and_lowNibble_toNat (v : Byte) : (v &&& 0x0F#8).toNat = v.toNat % 16 :=
  Nat.and_two_pow_sub_one_eq_mod v.toNat 4

/-! ## Register pairs (R42) -/

/-- A pair reads as written. -/
theorem pair_setPair (s : State) (p : Pair) (w : Word) : (s.setPair p w).pair p = w := by
  cases p with
  | bc | de | hl => exact hiByte_append_loByte w
  | sp => rfl

/-- A pair of `POP` reads as written, but for `AF`, whose high nibble of `F` is not kept (R43). -/
theorem stackPair_setStackPair (s : State) {p : StackPair} (w : Word) (hp : p ≠ .af) :
    (s.setStackPair p w).stackPair p = w := by
  cases p with
  | bc | de | hl => exact hiByte_append_loByte w
  | af => exact absurd rfl hp

/-- Writing a pair leaves the pc. -/
theorem lrPc_notMem_pairParts (p : Pair) : Part.lrPc ∉ pairParts p := by
  cases p <;> simp [pairParts]

/-- Popping into a pair leaves the pc and the stack pointer. -/
theorem lrPc_sp_notMem_stackPairParts (p : StackPair) :
    Part.lrPc ∉ stackPairParts p ∧ Part.sp ∉ stackPairParts p := by
  cases p <;> simp [stackPairParts]

/-! ## The end of an instruction (R135, R137) -/

/-- An instruction of `len` bytes that ends in a state reached without writing the pc falls through. -/
theorem lrNext_respond {s u : State} {len : Nat} {w : List Part} (h : (s.advanceLr len).Frame w u)
    (hw : .lrPc ∉ w) (cycles : Nat) : s.LrNext (u.respond (.cycles cycles)) len cycles :=
  ⟨rfl, h .lrPc hw⟩

/-! ## 16-bit stores and the stack (R75, R82, R83) -/

/-- A 16-bit store where it does not fail: the low byte lies at the lower address. -/
theorem lrWrite16_of_writable {s : State} {a : Word} (h : s.readOnlyAt a.toNat = false)
    (h' : s.readOnlyAt (a + 1#16).toNat = false) (v : Word) :
    ∃ t, s.lrWrite16 a v = .ok t ∧ t.lrRead a = loByte v ∧ t.lrRead (a + 1#16) = hiByte v ∧
      s.Frame [.lrMem a, .lrMem (a + 1#16)] t := by
  have hne : a ≠ a + 1#16 := by bv_omega
  exact ⟨_, (lrWrite16_eq s a v).1 h h', by simp [hne], by simp,
    (frame_lrPoke s a _).trans (frame_lrPoke _ (a + 1#16) _)⟩

/-! ## The stack pointer sums (R253, R303, R304) -/

/-- The sign-extended displacement as an unsigned number (R8). -/
theorem sext16_toNat (e : Byte) :
    (sext16 e).toNat = if e.toNat < 128 then e.toNat else e.toNat + 0xFF00 := by
  rw [sext16, BitVec.toNat_signExtend, BitVec.toNat_setWidth_of_le (by decide), BitVec.msb_eq_decide]
  by_cases h : e.toNat < 128
  · simp [h]
  · simp [h, Nat.not_lt.1 h]

/-- Sign extension leaves the low byte. -/
theorem sext16_toNat_mod (e : Byte) : (sext16 e).toNat % 256 = e.toNat := by
  rw [sext16_toNat]
  split <;> omega

end Sys2Proof.Machine

section
open Sys2Proof Sys2Proof.Machine

/-- Settles O43: the loads end with their pair or their two bytes written, the stack instructions as the push and
the pop leave the stack. -/
theorem lrLoads16AndStack : Obligations.LrLoads16AndStack := by
  intro q p d16 a16 s
  refine ⟨?_, ⟨_, rfl, ⟨rfl, rfl⟩, rfl, frame_lrFallThrough (frame_setSp _ _) _⟩, fun h h' => ?_, fun h => ?_,
    fun h hp => ?_, fun h => ?_⟩
  · have hframe := frame_setPair (s.advanceLr 3) q d16
    exact ⟨_, rfl, lrNext_respond hframe (lrPc_notMem_pairParts q) 12, pair_setPair _ q d16,
      frame_lrFallThrough hframe _⟩
  · obtain ⟨t, hwrite, hlo, hhi, hframe⟩ := lrWrite16_of_writable (s := s.advanceLr 3) h h' s.lr.sp
    exact ⟨_, congrArg (finish s 20) hwrite, lrNext_respond hframe (by simp) 20,
      (congrArg _ hlo).trans (loByte_toNat _), (congrArg _ hhi).trans (hiByte_toNat _),
      frame_lrFallThrough hframe _⟩
  · obtain ⟨t, hpush, hpushed, hframe⟩ := push16_of_canPush (s := s.advanceLr 1) h (s.stackPair p)
    exact ⟨_, congrArg (finish s 16) hpush, lrNext_respond hframe (by simp [State.pushParts]) 16, hpushed,
      frame_lrFallThrough hframe _⟩
  · have hpair := frame_setStackPair ((s.advanceLr 1).setSp (s.lr.sp + 2#16)) p s.top16
    have hframe := (frame_setSp (s.advanceLr 1) _).trans hpair
    obtain ⟨hpc, hsp⟩ := lrPc_sp_notMem_stackPairParts p
    exact ⟨_, exec_of_finish_map rfl ((pop16_eq (s.advanceLr 1)).1 h), lrNext_respond hframe (by simp [hpc]) 12,
      stackPair_setStackPair _ _ hp, hpair .sp hsp, frame_lrFallThrough hframe _⟩
  · have hframe := (frame_setSp (s.advanceLr 1) (s.lr.sp + 2#16)).trans (frame_setStackPair _ .af s.top16)
    have hflags : loByte s.top16 = s.lrRead s.lr.sp := loByte_append _ _
    exact ⟨_, exec_of_finish_map rfl ((pop16_eq (s.advanceLr 1)).1 h), ⟨rfl, rfl⟩, hiByte_append _ _,
      (and_lowNibble_toNat _).trans (congrArg (·.toNat % 16) hflags), rfl, frame_lrFallThrough hframe _⟩

/-- Settles O51: both write the sum of R304 with the displacement as an unsigned word, one to SP and one to HL. -/
theorem lrStackPointerSums : Obligations.LrStackPointerSums := by
  intro e s addend sum h
  have hadd : add16 s.lr.sp (sext16 e) = (BitVec.ofNat 16 sum, h, decide (sum > 65535)) := by
    simp only [add16, sext16_toNat_mod]
    rw [sext16_toNat]
  have hsum : (add16 s.lr.sp (sext16 e)).1.toNat = sum % 65536 := by
    rw [hadd]
    exact BitVec.toNat_ofNat _ _
  have hflags (u : State) : (u.setFlags ⟨false, false, (add16 s.lr.sp (sext16 e)).2.1,
      (add16 s.lr.sp (sext16 e)).2.2⟩).HasFlags false false h (decide (sum > 65535)) := by
    rw [hadd]
    exact hasFlags_setFlags u _ _ _ _
  exact ⟨⟨_, rfl, ⟨rfl, rfl⟩, hsum, hflags _,
      frame_lrFallThrough ((frame_setSp _ _).trans (frame_setFlags _ _)) _⟩,
    ⟨_, rfl, ⟨rfl, rfl⟩, (congrArg _ (hl_setHl (s.advanceLr 2) _)).trans hsum, hflags _,
      frame_lrFallThrough ((frame_setHl _ _).trans (frame_setFlags _ _)) _⟩⟩

end

/-! Proofs of the statements on the 8-bit arithmetic and logic of variant LR. -/

namespace Sys2Proof.Machine

/-! ## Instructions that end with the flags written (R43, R265) -/

/-- An instruction that ends with the flags written writes them and the pc. -/
theorem writesFlags_of_setFlags {i : Instr} {s : State} {len cycles : Nat} {fl : Flags} {z n h c : Bool}
    (hi : exec i s = finish s cycles (.ok ((s.advanceLr len).setFlags fl))) (hfl : fl = ⟨z, n, h, c⟩) :
    WritesFlags i s len cycles z n h c := by
  subst hfl
  exact ⟨_, hi, ⟨rfl, rfl⟩, hasFlags_setFlags _ z n h c, frame_lrFallThrough (frame_setFlags _ _) _⟩

/-- An instruction that ends with a result in A and its flags writes these and the pc. -/
theorem writesAcc_of_setAcc {i : Instr} {s : State} {len cycles : Nat} {r : Byte × Flags} {v : Byte}
    {z n h c : Bool} (hi : exec i s = finish s cycles (.ok ((s.advanceLr len).setAcc r)))
    (hr : r = (v, ⟨z, n, h, c⟩)) : WritesAcc i s len cycles v z n h c := by
  subst hr
  exact ⟨_, hi, ⟨rfl, rfl⟩, rfl, hasFlags_setFlags _ z n h c, frame_lrFallThrough (frame_setAcc _ _) _⟩

/-- Writing an operand form that can be written leaves the value there and nothing else changed (R115). -/
theorem setR8_of_writable {s : State} {o : Operand8} (ho : s.Writable o) (v : Byte) :
    ∃ t, s.setR8 o v = .ok t ∧ (∀ r, o = .reg r → t.reg r = v) ∧ (o = .atHl → t.lrRead s.hl = v) ∧
      s.Frame (operandParts s o) t := by
  cases o with
  | reg r => exact ⟨_, rfl, by simp, by simp, frame_setReg s r v⟩
  | atHl => exact ⟨_, (lrWrite_eq s s.hl v).1 ho, by simp, by simp, frame_lrPoke s s.hl v⟩

/-- Writing an operand form leaves the pc. -/
theorem lrPc_notMem_operandParts (s : State) (o : Operand8) : Part.lrPc ∉ operandParts s o := by
  cases o <;> simp [operandParts]

/-- An instruction that ends with its operand written, where that can be, and then its flags. -/
theorem writesOperand_of_setR8 {i : Instr} {s : State} {len cycles : Nat} {o : Operand8} {r : Byte × Flags}
    {v : Byte} {z n h c : Bool} (ho : s.Writable o)
    (hi : exec i s = finish s cycles (((s.advanceLr len).setR8 o r.1).map fun u => u.setFlags r.2))
    (hr : r = (v, ⟨z, n, h, c⟩)) : WritesOperand i s len cycles o v z n h c := by
  subst hr
  obtain ⟨t, ht, hreg, hmem, hoperand⟩ := setR8_of_writable (s := s.advanceLr len) ho v
  have hframe : (s.advanceLr len).Frame (operandParts s o ++ [.flags]) (t.setFlags ⟨z, n, h, c⟩) :=
    State.Frame.trans hoperand (frame_setFlags t _)
  have hpc : Part.lrPc ∉ operandParts s o ++ [.flags] := by simp [lrPc_notMem_operandParts]
  exact ⟨_, exec_of_finish_map hi ht, lrNext_respond hframe hpc cycles,
    fun r ho => Eq.trans (frame_setFlags t _ (.reg r) (by simp)) (hreg r ho), hmem, hasFlags_setFlags t z n h c,
    (frame_lrFallThrough hframe _).mono (by simp [or_comm])⟩

/-- The number in `F` determines the flags (R43). -/
theorem flags_of_hasFlags {t : State} {z n h c : Bool} (hf : t.HasFlags z n h c) : t.flags = ⟨z, n, h, c⟩ := by
  have hbyte : t.lr.f = (t.setFlags ⟨z, n, h, c⟩).lr.f :=
    BitVec.eq_of_toNat_eq (hf.trans (hasFlags_setFlags t z n h c).symm)
  rw [← flags_setFlags t ⟨z, n, h, c⟩, State.flags, hbyte, State.flags]

/-! ## Results with their flags, as numbers (R265 to R275) -/

/-- Z of a result given as a number (R265). -/
theorem ofNat_eq_zero_iff (k : Nat) : BitVec.ofNat 8 k = 0x00#8 ↔ k % 256 = 0 := by
  rw [← BitVec.toNat_inj, BitVec.toNat_ofNat]
  rfl

theorem add8_eq (a b : Byte) (cin : Bool) :
    add8 a b cin = (BitVec.ofNat 8 (a.toNat + b.toNat + cin.toNat),
      ⟨decide ((a.toNat + b.toNat + cin.toNat) % 256 = 0), false,
        decide (a.toNat % 16 + b.toNat % 16 + cin.toNat > 15), decide (a.toNat + b.toNat + cin.toNat > 255)⟩) := by
  simp only [add8, ofNat_eq_zero_iff]

/-- A difference that may be negative, as a number (R265). -/
theorem ofInt_sub_eq_ofNat (a b : Byte) (cin : Bool) :
    BitVec.ofInt 8 ((a.toNat : Int) - b.toNat - cin.toNat) =
      BitVec.ofNat 8 (a.toNat + 512 - b.toNat - cin.toNat) := by
  have hcin := cin.toNat_le
  apply BitVec.eq_of_toNat_eq
  rw [BitVec.toNat_ofInt, BitVec.toNat_ofNat]
  omega

theorem sub8_eq (a b : Byte) (cin : Bool) :
    sub8 a b cin = (BitVec.ofNat 8 (a.toNat + 512 - b.toNat - cin.toNat),
      ⟨decide ((a.toNat + 512 - b.toNat - cin.toNat) % 256 = 0), true,
        decide (a.toNat % 16 < b.toNat % 16 + cin.toNat), decide (a.toNat < b.toNat + cin.toNat)⟩) := by
  have hh : ((a.toNat % 16 : Nat) : Int) - (b.toNat % 16 : Nat) - cin.toNat < 0 ↔
      a.toNat % 16 < b.toNat % 16 + cin.toNat := by omega
  have hc : (a.toNat : Int) - b.toNat - cin.toNat < 0 ↔ a.toNat < b.toNat + cin.toNat := by omega
  simp only [sub8, ofInt_sub_eq_ofNat, ofNat_eq_zero_iff, hh, hc]

theorem inc8_eq (v : Byte) (old : Flags) :
    inc8 v old = (BitVec.ofNat 8 (v.toNat + 1),
      ⟨decide (v.toNat = 0xFF), false, decide (v.toNat % 16 = 15), old.c⟩) := by
  have hsum : v + 0x01#8 = BitVec.ofNat 8 (v.toNat + 1) := BitVec.add_def _ _
  simp only [inc8, hsum, ← BitVec.toNat_inj, and_lowNibble_toNat]
  rfl

theorem dec8_eq (v : Byte) (old : Flags) :
    dec8 v old = (BitVec.ofNat 8 (v.toNat + 255),
      ⟨decide (v.toNat = 0x01), true, decide (v.toNat % 16 = 0), old.c⟩) := by
  have hdiff : v - 0x01#8 = BitVec.ofNat 8 (v.toNat + 255) := by bv_omega
  simp only [dec8, hdiff, ← BitVec.toNat_inj, and_lowNibble_toNat]
  rfl

/-- Complementing a byte takes it from 255 (R277). -/
theorem xor_ones_eq (a : Byte) : a ^^^ 0xFF#8 = BitVec.ofNat 8 (255 - a.toNat) := by
  have hnot : a ^^^ 0xFF#8 = ~~~a := BitVec.xor_allOnes
  apply BitVec.eq_of_toNat_eq
  rw [hnot, BitVec.toNat_not, BitVec.toNat_ofNat]
  omega

/-! ## The decimal adjustment (R276) -/

/-- What `DAA` adds or takes off: 6 for the low digit, 0x60 for the high one. -/
theorem adjustment_toNat (low high : Bool) :
    ((if low then 0x06#8 else 0x00#8) ||| (if high then 0x60#8 else 0x00#8)).toNat =
      0x06 * low.toNat + 0x60 * high.toNat := by
  cases low <;> cases high <;> rfl

/-- A byte with an adjustment taken off or added, as a number. -/
theorem adjusted_eq_ofNat (sub : Bool) (a adj : Byte) :
    (if sub then a - adj else a + adj) =
      BitVec.ofNat 8 ((if sub then a.toNat + 256 - adj.toNat else a.toNat + adj.toNat) % 256) := by
  apply BitVec.eq_of_toNat_eq
  cases sub with
  | false => simp
  | true =>
    simp only [if_true, BitVec.toNat_sub, BitVec.toNat_ofNat]
    omega

theorem daa8_eq {a : Byte} {old : Flags} {low high : Bool}
    (hlow : (old.h || (!old.n && decide (a.toNat % 16 > 0x09))) = low)
    (hhigh : (old.c || (!old.n && decide (a.toNat > 0x99))) = high) {result : Nat}
    (hresult : (if old.n then a.toNat + 256 - (0x06 * low.toNat + 0x60 * high.toNat)
      else a.toNat + (0x06 * low.toNat + 0x60 * high.toNat)) % 256 = result) :
    daa8 a old = (BitVec.ofNat 8 result, ⟨decide (result = 0), old.n, false, high⟩) := by
  subst hresult
  simp only [daa8, hlow, hhigh, adjusted_eq_ofNat, adjustment_toNat, ofNat_eq_zero_iff, Nat.mod_mod]

/-! ## Packed decimals (R276) -/

/-- A number up to 99 as two decimal digits, one in each nibble; a third digit carries past them. -/
def packedDecimal (m : Nat) : Nat :=
  m / 10 * 16 + m % 10

/-- A carry out of the low digits is 6 short in the packed sum. -/
theorem packedDecimal_add (m n : Nat) :
    packedDecimal m + packedDecimal n + 0x06 * (decide (m % 10 + n % 10 ≥ 10)).toNat = packedDecimal (m + n) := by
  unfold packedDecimal
  by_cases h : m % 10 + n % 10 ≥ 10
  · simp only [h, decide_true, Bool.toNat_true]
    omega
  · simp only [h, decide_false, Bool.toNat_false]
    omega

/-- A carry out of the high digit is 0x60 short in the byte. -/
theorem packedDecimal_add_mod {k : Nat} (hk : k < 200) :
    (packedDecimal k + 0x60 * (decide (k ≥ 100)).toNat) % 256 = k / 10 % 10 * 16 + k % 10 := by
  unfold packedDecimal
  by_cases h : k ≥ 100
  · have htens : k / 10 % 10 = k / 10 - 10 := by omega
    simp only [h, decide_true, Bool.toNat_true]
    omega
  · have htens : k / 10 % 10 = k / 10 := by omega
    simp only [h, decide_false, Bool.toNat_false]
    omega

/-- The byte sum of two packed decimals with both corrections is their packed sum modulo 100. -/
theorem packedSum_corrected {m n : Nat} (hm : m < 100) (hn : n < 100) :
    ((packedDecimal m + packedDecimal n) % 256 + (0x06 * (decide (m % 10 + n % 10 ≥ 10)).toNat +
      0x60 * (decide (m + n ≥ 100)).toNat)) % 256 = (m + n) / 10 % 10 * 16 + (m + n) % 10 := by
  rw [Nat.mod_add_mod, ← Nat.add_assoc, packedDecimal_add, packedDecimal_add_mod (by omega)]

/-- A carry out of the low digits shows as a half carry or as a digit above 9. -/
theorem lowCorrection_iff (m n : Nat) :
    (packedDecimal m % 16 + packedDecimal n % 16 > 15 ∨ (packedDecimal m + packedDecimal n) % 256 % 16 > 0x09) ↔
      m % 10 + n % 10 ≥ 10 := by
  have hlow (k : Nat) : packedDecimal k % 16 = k % 10 := by unfold packedDecimal; omega
  have hm := hlow m
  have hn := hlow n
  omega

/-- A carry of the decimal sum shows as a carry of the byte or as a byte above 0x99. -/
theorem highCorrection_iff {m n : Nat} (hm : m < 100) (hn : n < 100) :
    (packedDecimal m + packedDecimal n > 255 ∨ (packedDecimal m + packedDecimal n) % 256 > 0x99) ↔
      m + n ≥ 100 := by
  have hsum : packedDecimal m + packedDecimal n = (m / 10 + n / 10) * 16 + (m % 10 + n % 10) := by
    unfold packedDecimal; omega
  rcases Nat.lt_trichotomy (m / 10 + n / 10) 9 with h | h | h <;> omega

end Sys2Proof.Machine

section
open Sys2Proof Sys2Proof.Machine

/-- Settles O44: each ends with the sum of R265 in A and its flags. -/
theorem lrAddition : Obligations.LrAddition := by
  intro r d8 s sum
  have hsum {i : Instr} {len cycles : Nat} {v : Byte} (cin : Bool)
      (hi : exec i s = finish s cycles (.ok ((s.advanceLr len).setAcc (add8 s.lr.a v cin)))) :
      sum i len cycles v cin.toNat := writesAcc_of_setAcc hi (add8_eq _ _ _)
  exact ⟨hsum false rfl, hsum false rfl, hsum false rfl, hsum s.flags.c rfl, hsum s.flags.c rfl,
    hsum s.flags.c rfl⟩

/-- Settles O45: each ends with the difference of R265 in A and its flags, `CP` with the flags only. -/
theorem lrSubtraction : Obligations.LrSubtraction := by
  intro r d8 s z h c diff compare
  have hdiff {i : Instr} {len cycles : Nat} {v : Byte} (cin : Bool)
      (hi : exec i s = finish s cycles (.ok ((s.advanceLr len).setAcc (sub8 s.lr.a v cin)))) :
      diff i len cycles v cin.toNat := writesAcc_of_setAcc hi (sub8_eq _ _ _)
  have hcompare {i : Instr} {len cycles : Nat} {v : Byte}
      (hi : exec i s = finish s cycles (.ok ((s.advanceLr len).setFlags (sub8 s.lr.a v false).2))) :
      compare i len cycles v := writesFlags_of_setFlags hi (congrArg Prod.snd (sub8_eq _ _ _))
  exact ⟨hdiff false rfl, hdiff false rfl, hdiff false rfl, hdiff s.flags.c rfl, hdiff s.flags.c rfl,
    hdiff s.flags.c rfl, hcompare rfl, hcompare rfl, hcompare rfl⟩

/-- Settles O46: each ends with its result in A, Z being set where that is the byte 0. -/
theorem lrLogic : Obligations.LrLogic := by
  intro r d8 s logic
  have hlogic {i : Instr} {len cycles : Nat} {result : Byte} {h : Bool}
      (hi : exec i s = finish s cycles (.ok ((s.advanceLr len).setAcc
        (result, ⟨decide (result = 0x00#8), false, h, false⟩)))) : logic i len cycles result h :=
    writesAcc_of_setAcc hi (by simp [← BitVec.toNat_inj])
  exact ⟨hlogic rfl, hlogic rfl, hlogic rfl, hlogic rfl, hlogic rfl, hlogic rfl, hlogic rfl, hlogic rfl,
    hlogic rfl⟩

/-- Settles O47: each ends with its operand written, where that is not protected, and the flags, C as it was. -/
theorem lrIncDec : Obligations.LrIncDec := by
  intro r s inc dec
  exact ⟨writesOperand_of_setR8 trivial rfl (inc8_eq _ _), writesOperand_of_setR8 trivial rfl (dec8_eq _ _),
    fun h => ⟨writesOperand_of_setR8 h rfl (inc8_eq _ _), writesOperand_of_setR8 h rfl (dec8_eq _ _)⟩⟩

/-- Settles O48: each keeps the flags its rule does not name. -/
theorem lrAccumulatorMisc : Obligations.LrAccumulatorMisc := by
  intro s
  have hcpl : (s.lr.a ^^^ 0xFF#8, { s.flags with n := true, h := true }) =
      (BitVec.ofNat 8 (255 - s.lr.a.toNat), ⟨s.flags.z, true, true, s.flags.c⟩) := by rw [xor_ones_eq]
  exact ⟨writesAcc_of_setAcc rfl hcpl, writesFlags_of_setFlags rfl rfl, writesFlags_of_setFlags rfl rfl,
    writesAcc_of_setAcc rfl (daa8_eq rfl rfl rfl)⟩

/-- Settles O49: after the sum of O44 the two corrections of O48 are the carries out of the decimal digits. -/
theorem daaAddsDecimals : Obligations.DaaAddsDecimals := by
  intro r s t u m n hm hn ha hr hadd hdaa
  obtain ⟨⟨t', ht, -, hta, htf, -⟩, -⟩ := lrAddition r 0x00#8 s
  obtain rfl : t' = t := Host.Outcome.next.inj (ht.symm.trans hadd)
  obtain ⟨-, -, -, u', hu, -, hua, huf, -⟩ := lrAccumulatorMisc t'
  obtain rfl : u' = u := Host.Outcome.next.inj (hu.symm.trans hdaa)
  rw [← packedDecimal] at ha hr
  rw [ha, hr, Nat.add_zero] at hta htf
  have hsum : t'.lr.a.toNat = (packedDecimal m + packedDecimal n) % 256 :=
    (congrArg _ hta).trans (BitVec.toNat_ofNat _ _)
  simp only [flags_of_hasFlags htf, hsum, Bool.not_false, Bool.true_and, Nat.add_zero, ← Bool.decide_or,
    lowCorrection_iff, highCorrection_iff hm hn, Bool.false_eq_true, if_false,
    packedSum_corrected hm hn] at hua huf
  refine ⟨?_, congrArg Flags.c (flags_of_hasFlags huf)⟩
  rw [hua, BitVec.toNat_ofNat]
  omega

end

/-! Proofs of the statements on the 16-bit arithmetic, the rotates, the shifts and the bit operations of variant LR. -/

namespace Sys2Proof.Machine

/-! ## Steps of a register pair (R301, R302) -/

/-- An instruction that ends with a pair written writes that pair and the pc. -/
theorem writesPair_of_setPair {i : Instr} {s : State} {p : Pair} {w : Word} {n : Nat}
    (h : exec i s = finish s 8 (.ok ((s.advanceLr 1).setPair p w))) (hw : w.toNat = n) :
    ∃ t, exec i s = .next t ∧ s.LrNext t 1 8 ∧ (t.pair p).toNat = n ∧ s.Frame (.lrPc :: pairParts p) t :=
  have hframe := frame_setPair (s.advanceLr 1) p w
  ⟨_, h, lrNext_respond hframe (lrPc_notMem_pairParts p) 8, (congrArg _ (pair_setPair _ p w)).trans hw,
    frame_lrFallThrough hframe _⟩

/-! ## Rotates and shifts bit by bit (R310 to R321) -/

theorem bitByte_getLsbD (b : Bool) (k : Nat) : (bitByte b).getLsbD k = (decide (k = 0) && b) := by
  cases b <;> simp [bitByte, BitVec.getLsbD_one]

/-- A shift to the left with `c` coming in. -/
theorem shiftLeft_or_bitByte_getLsbD (v : Byte) (c : Bool) (k : Fin 8) :
    ((v <<< 1) ||| bitByte c).getLsbD k.val = if k.val = 0 then c else v.getLsbD (k.val - 1) := by
  rw [BitVec.getLsbD_or, BitVec.getLsbD_shiftLeft, bitByte_getLsbD]
  by_cases h : k.val = 0 <;> simp [h]

/-- A shift to the right with `c` coming in. -/
theorem shiftRight_or_bitByte_getLsbD (v : Byte) (c : Bool) (k : Fin 8) :
    ((v >>> 1) ||| (bitByte c <<< 7)).getLsbD k.val = if k.val = 7 then c else v.getLsbD (k.val + 1) := by
  rw [BitVec.getLsbD_or, BitVec.getLsbD_ushiftRight, BitVec.getLsbD_shiftLeft, bitByte_getLsbD, Nat.add_comm]
  by_cases h : k.val = 7
  · simp [h]
  · have hlt : k.val < 7 := by omega
    simp [h, hlt]

/-- A rotation to the left is a shift with bit 7 coming in. -/
theorem rlc8_getLsbD (v : Byte) (c : Bool) (k : Fin 8) : (rlc8 v c).1.getLsbD k.val = v.getLsbD ((k.val + 7) % 8) := by
  rw [rlc8, shiftLeft_or_bitByte_getLsbD]
  split <;> congr 1 <;> omega

/-- A rotation to the right is a shift with bit 0 coming in. -/
theorem rrc8_getLsbD (v : Byte) (c : Bool) (k : Fin 8) : (rrc8 v c).1.getLsbD k.val = v.getLsbD ((k.val + 1) % 8) := by
  rw [rrc8, shiftRight_or_bitByte_getLsbD]
  split <;> congr 1 <;> omega

theorem sla8_getLsbD (v : Byte) (c : Bool) (k : Fin 8) :
    (sla8 v c).1.getLsbD k.val = if k.val = 0 then false else v.getLsbD (k.val - 1) := by
  rw [← shiftLeft_or_bitByte_getLsbD]
  simp [sla8, bitByte]

theorem srl8_getLsbD (v : Byte) (c : Bool) (k : Fin 8) :
    (srl8 v c).1.getLsbD k.val = if k.val = 7 then false else v.getLsbD (k.val + 1) := by
  rw [← shiftRight_or_bitByte_getLsbD]
  simp [srl8, bitByte]

/-- An arithmetic shift has the bit 7 it keeps coming in. -/
theorem sra8_getLsbD (v : Byte) (c : Bool) (k : Fin 8) :
    (sra8 v c).1.getLsbD k.val = v.getLsbD (min 7 (k.val + 1)) := by
  have hkept : v &&& 0x80#8 = bitByte (v.getLsbD 7) <<< 7 := by
    have hmask : 0x80#8 = BitVec.twoPow 8 7 := rfl
    rw [hmask, BitVec.and_twoPow]
    cases v.getLsbD 7 <;> rfl
  rw [sra8, hkept, shiftRight_or_bitByte_getLsbD]
  split <;> congr 1 <;> omega

/-- An exchange of the nibbles is a rotation by four. -/
theorem swap8_getLsbD (v : Byte) (c : Bool) (k : Fin 8) :
    (swap8 v c).1.getLsbD k.val = v.getLsbD ((k.val + 4) % 8) := by
  have hrot : (swap8 v c).1 = v.rotateLeft 4 := rfl
  rw [hrot, BitVec.getLsbD_rotateLeft_of_le (by decide)]
  by_cases h : k.val < 4
  · have hk : (k.val + 4) % 8 = 8 - 4 + k.val := by omega
    simp [h, hk]
  · have hk : (k.val + 4) % 8 = k.val - 4 := by omega
    simp [h, hk]

/-- A rotate of A ends with the bits it gives and only C set, if at all (R310 to R313). -/
theorem rotatesAcc_of_rotateAcc {i : Instr} {s : State} {rot : Byte → Bool → Byte × Bool} {bit : Fin 8 → Bool}
    {out : Bool} (hi : exec i s = finish s 4 (rotateAcc rot (s.advanceLr 1)))
    (hbit : ∀ k : Fin 8, (rot s.lr.a s.flags.c).1.getLsbD k.val = bit k) (hout : (rot s.lr.a s.flags.c).2 = out) :
    ∃ t, exec i s = .next t ∧ s.LrNext t 1 4 ∧ (∀ k : Fin 8, t.lr.a.getLsbD k.val = bit k) ∧
      t.HasFlags false false false out ∧ s.Frame [.lrPc, .reg .a, .flags] t := by
  subst hout
  obtain ⟨t, ht, hnext, hacc, hflags, hframe⟩ := writesAcc_of_setAcc hi rfl
  exact ⟨t, ht, hnext, hacc ▸ hbit, hflags, hframe⟩

/-- A prefixed rotate or shift ends with the bits it gives in its operand (R314 to R321). -/
theorem shiftsOperand_of_rotate8 {i : Instr} {s : State} {cycles : Nat} {o : Operand8}
    {rot : Byte → Bool → Byte × Bool} {bit : Fin 8 → Bool} {out : Bool} (ho : s.Writable o)
    (hi : exec i s = finish s cycles (rotate8 rot o (s.advanceLr 2)))
    (hbit : ∀ k : Fin 8, (rot (s.r8 o) s.flags.c).1.getLsbD k.val = bit k) (hout : (rot (s.r8 o) s.flags.c).2 = out) :
    ∃ w : Byte, (∀ k : Fin 8, w.getLsbD k.val = bit k) ∧
      WritesOperand i s 2 cycles o w (decide (w.toNat = 0)) false false out := by
  refine ⟨_, hbit, writesOperand_of_setR8 (r := (_, shiftFlags _ _)) ho hi ?_⟩
  subst hout
  simp only [shiftFlags, ← BitVec.toNat_inj]
  rfl

/-! ## Bits of an operand (R322 to R324) -/

theorem one_shiftLeft_getLsbD : ∀ b k : Fin 8, (1#8 <<< b.val).getLsbD k.val = decide (k = b) := by
  decide

theorem and_not_one_shiftLeft_getLsbD (v : Byte) (b k : Fin 8) :
    (v &&& ~~~(1#8 <<< b.val)).getLsbD k.val = (v.getLsbD k.val && decide (k ≠ b)) := by
  rw [BitVec.getLsbD_and, BitVec.getLsbD_not, one_shiftLeft_getLsbD]
  simp

theorem or_one_shiftLeft_getLsbD (v : Byte) (b k : Fin 8) :
    (v ||| (1#8 <<< b.val)).getLsbD k.val = (v.getLsbD k.val || decide (k = b)) := by
  rw [BitVec.getLsbD_or, one_shiftLeft_getLsbD]

/-- An instruction that ends with its operand written, where that can be, writes it and the pc. -/
theorem writesOperandOnly_of_setR8 {i : Instr} {s : State} {len cycles : Nat} {o : Operand8} {v : Byte}
    (ho : s.Writable o) (hi : exec i s = finish s cycles ((s.advanceLr len).setR8 o v)) :
    WritesOperandOnly i s len cycles o v := by
  obtain ⟨t, ht, hreg, hmem, hframe⟩ := setR8_of_writable (s := s.advanceLr len) ho v
  exact ⟨_, hi.trans (congrArg (finish s cycles) ht), lrNext_respond hframe (lrPc_notMem_operandParts _ o) cycles,
    hreg, hmem, frame_lrFallThrough hframe _⟩

end Sys2Proof.Machine

section
open Sys2Proof Sys2Proof.Machine

/-- Settles O50: `ADD HL,rr` writes the sum of R304 to HL, the steps write their pair and no flag. -/
theorem lrArithmetic16 : Obligations.LrArithmetic16 := by
  intro p s
  have hsum : (add16 s.hl (s.pair p)).1.toNat = (s.hl.toNat + (s.pair p).toNat) % 65536 := BitVec.toNat_ofNat _ _
  exact ⟨⟨_, rfl, ⟨rfl, rfl⟩, (congrArg _ (hl_setHl (s.advanceLr 1) _)).trans hsum, hasFlags_setFlags _ _ _ _ _,
      frame_lrFallThrough ((frame_setHl _ _).trans (frame_setFlags _ _)) _⟩,
    writesPair_of_setPair rfl (BitVec.toNat_add (s.pair p) 1#16), writesPair_of_setPair rfl (sub_one_toNat (s.pair p))⟩

/-- Settles O52: each ends with its rotation of A and the bit shifted out in C. -/
theorem lrAccumulatorRotates : Obligations.LrAccumulatorRotates := fun s =>
  ⟨rotatesAcc_of_rotateAcc rfl (rlc8_getLsbD _ _) rfl, rotatesAcc_of_rotateAcc rfl (rrc8_getLsbD _ _) rfl,
    rotatesAcc_of_rotateAcc rfl (shiftLeft_or_bitByte_getLsbD s.lr.a _) rfl,
    rotatesAcc_of_rotateAcc rfl (shiftRight_or_bitByte_getLsbD s.lr.a _) rfl⟩

/-- Settles O53: each row pair is one rotate or shift of its operand. -/
theorem lrRotatesAndShifts : Obligations.LrRotatesAndShifts := by
  intro o s ho v form cycles shifts
  have hshifts {f : Reg8 → Instr} {m : Instr} {rot : Byte → Bool → Byte × Bool} {bit : Fin 8 → Bool} {out : Bool}
      (hf : ∀ r, exec (f r) s = finish s 8 (rotate8 rot (.reg r) (s.advanceLr 2)))
      (hm : exec m s = finish s 16 (rotate8 rot .atHl (s.advanceLr 2)))
      (hbit : ∀ k : Fin 8, (rot v s.flags.c).1.getLsbD k.val = bit k) (hout : (rot v s.flags.c).2 = out) :
      shifts (form f m) bit out := by
    refine shiftsOperand_of_rotate8 ho ?_ hbit hout
    cases o with
    | reg r => exact hf r
    | atHl => exact hm
  exact ⟨hshifts (fun _ => rfl) rfl (rlc8_getLsbD v _) rfl, hshifts (fun _ => rfl) rfl (rrc8_getLsbD v _) rfl,
    hshifts (fun _ => rfl) rfl (shiftLeft_or_bitByte_getLsbD v _) rfl,
    hshifts (fun _ => rfl) rfl (shiftRight_or_bitByte_getLsbD v _) rfl,
    hshifts (fun _ => rfl) rfl (sla8_getLsbD v s.flags.c) rfl,
    hshifts (fun _ => rfl) rfl (sra8_getLsbD v s.flags.c) rfl,
    hshifts (fun _ => rfl) rfl (swap8_getLsbD v s.flags.c) rfl,
    hshifts (fun _ => rfl) rfl (srl8_getLsbD v s.flags.c) rfl⟩

/-- Settles O54: `BIT` ends with the flags written, `RES` and `SET` with their operand, one bit of it changed. -/
theorem lrBitOperations : Obligations.LrBitOperations := by
  intro b o s v form wide tests
  refine ⟨writesFlags_of_setFlags ?bit rfl, fun ho =>
    ⟨⟨_, and_not_one_shiftLeft_getLsbD v b, writesOperandOnly_of_setR8 ho ?res⟩,
      ⟨_, or_one_shiftLeft_getLsbD v b, writesOperandOnly_of_setR8 ho ?set⟩⟩⟩
  all_goals cases o <;> rfl

end

/-! Proofs of the statements on the calls, the returns and the control instructions of variant LR, and on the
dispatch of an interrupt. -/

namespace Sys2Proof.Machine

/-! ## Return from an interrupt (R350, R386) -/

/-- An instruction whose operation is a return from an interrupt. -/
theorem returnsWith_of_leaveInterrupt {i : Instr} {s : State} {len cycles : Nat}
    (hi : exec i s = finish s cycles (s.advanceLr len).leaveInterrupt) (h : s.lr.sp.toNat ≤ 0xFFFD) :
    ReturnsWith i s cycles [.ime] fun t => t.lr.ime = true := by
  refine ⟨_, exec_of_finish_map hi ((pop16_eq (s.advanceLr len)).1 h), rfl, rfl, rfl, rfl, ?_⟩
  exact (frame_lrFallThrough (((frame_setSp _ _).trans (frame_setLrPc _ _)).trans (frame_setIme _ true)) _).mono
    (by simp)

/-! ## Halt (R361) -/

/-- `HALT` with `IME = 0` and a pending source arms the skip (log 10). -/
theorem exec_lrHalt_of_pending {s : State} (h : s.lr.ime = false ∧ s.pending = true) :
    exec .lrHalt s = .next (((s.advanceLr 1).setSkipNext true).respond (.cycles 4)) :=
  congrArg (fun t => finish s 4 (.ok t)) (if_pos h)

/-- Any other `HALT` halts. -/
theorem exec_lrHalt_of_not_pending {s : State} (h : ¬ (s.lr.ime = false ∧ s.pending = true)) :
    exec .lrHalt s = .next (((s.advanceLr 1).setStatus .halted).respond (.cycles 4)) :=
  congrArg (fun t => finish s 4 (.ok t)) (if_neg h)

/-! ## The dispatch of an interrupt (R384, R385) -/

/-- The sources both requested and enabled, one by one (R382). -/
theorem pendingSources_getLsbD (s : State) {k : Nat} (hk : k < 5) :
    s.pendingSources.getLsbD k = ((s.lrRead ieAddr).getLsbD k && (s.lrRead ifAddr).getLsbD k) := by
  have hmask : (0x1F#8).getLsbD k = true := (by decide : ∀ k < 5, (0x1F#8).getLsbD k = true) k hk
  rw [State.pendingSources, BitVec.getLsbD_and, BitVec.getLsbD_and, hmask, Bool.and_true]

/-- Source `k` is both requested and enabled, and no lesser one is (R384). -/
def State.LeastPending (s : State) (k : Nat) : Prop :=
  k < 5 ∧ ((s.lrRead ieAddr).getLsbD k = true ∧ (s.lrRead ifAddr).getLsbD k = true) ∧
    ∀ j < k, (s.lrRead ieAddr).getLsbD j = false ∨ (s.lrRead ifAddr).getLsbD j = false

theorem leastSource_of_leastPending {s : State} {k : Nat} (h : s.LeastPending k) :
    leastSource s.pendingSources = some k := by
  obtain ⟨h5, hk, hj⟩ := h
  rw [leastSource, List.find?_range_eq_some]
  refine ⟨?_, List.mem_range.2 h5, fun j hlt => ?_⟩
  · rwa [pendingSources_getLsbD s h5, Bool.and_eq_true]
  · rw [pendingSources_getLsbD s (hlt.trans h5), Bool.not_eq_true', Bool.and_eq_false_iff]
    exact hj j hlt

theorem pending_of_leastPending {s : State} {k : Nat} (h : s.LeastPending k) : s.pending = true := by
  obtain ⟨h5, hk, -⟩ := h
  exact (pending_iff s).2 ⟨k, h5, hk⟩

/-- A core that runs or is halted runs after the wake check where a source is pending (R396). -/
theorem wakeLr_of_pending {s : State} (hs : s.status = .running ∨ s.status = .halted) (hp : s.pending = true) :
    s.wakeLr = s.setStatus .running := by
  rw [wakeLr_eq]
  obtain hs | hs := hs
  · rw [if_neg (by simp [hs]), State.setStatus, ← hs]
  · exact if_pos ⟨hs, hp⟩

/-- With `IME = 1` a step dispatches the least pending source (R384, R385). -/
theorem step_of_leastPending {s : State} {k : Nat} (hsys : s.config.system = .lr)
    (hs : s.status = .running ∨ s.status = .halted) (hime : s.lr.ime = true) (hk : s.LeastPending k) :
    step s = finish (s.setStatus .running) 20 ((s.setStatus .running).enterInterrupt k) := by
  have hp := pending_of_leastPending hk
  have hwake : s.wakeCheck = s.setStatus .running := ((wakeCheck_eq s).2 hsys).trans (wakeLr_of_pending hs hp)
  have hsafe : isCrashed s.status = false := by obtain hs | hs := hs <;> rw [hs] <;> rfl
  have hdispatches : (s.setStatus .running).dispatches = true := by
    have hdue : (s.setStatus .running).interruptDue = true := (congrArg₂ and hime hp :)
    simp only [State.dispatches, State.setStatus_fields, hsys, hdue]
  have hleast : leastSource (s.setStatus .running).pendingSources = some k := leastSource_of_leastPending hk
  rw [step_of_not_crashed hsafe, hwake, afterWake, if_neg (by simp [isWaiting]), if_pos hdispatches,
    State.takeInterrupt, hleast]

/-- The state from which a dispatch of source `k` pushes the pc: `IME` and bit `k` of `IF` are cleared (R385). -/
def State.acknowledge (s : State) (k : Nat) : State :=
  (s.setIme false).lrPoke ifAddr (s.lrRead ifAddr &&& ~~~(1#8 <<< k))

theorem frame_acknowledge (s : State) (k : Nat) : s.Frame [.ime, .lrMem ifAddr] (s.acknowledge k) :=
  (frame_setIme s false).trans (frame_lrPoke _ ifAddr _)

theorem lrRead_acknowledge (s : State) (k : Nat) :
    (s.acknowledge k).lrRead ifAddr = s.lrRead ifAddr &&& ~~~(1#8 <<< k) :=
  (lrRead_lrPoke _ ifAddr ifAddr _).trans (if_pos rfl)

/-- The dispatch fails first where `IF` is protected (log 17), and pushes the pc where it is not. -/
theorem enterInterrupt_eq (s : State) (k : Nat) :
    (s.readOnlyAt 0xFF0F = true → s.enterInterrupt k = .error (.invalidMemoryAccess 0xFF0F)) ∧
    (s.readOnlyAt 0xFF0F = false → s.enterInterrupt k =
      ((s.acknowledge k).push16 s.lr.pc).map fun u => u.setLrPc (BitVec.ofNat 16 (0x0040 + 8 * k))) := by
  constructor <;> intro h
  · rw [State.enterInterrupt, (lrWrite_eq (s.setIme false) ifAddr _).2 h]
    rfl
  · rw [State.enterInterrupt, (lrWrite_eq (s.setIme false) ifAddr _).1 h]
    rfl

/-- A dispatch that can push the pc (R385). -/
theorem enterInterrupt_of_canPush {s : State} {k : Nat} (hif : s.readOnlyAt 0xFF0F = false) (h : s.CanPush) :
    ∃ t, s.enterInterrupt k = .ok t ∧ t.status = s.status ∧ t.lr.pc = BitVec.ofNat 16 (0x0040 + 8 * k) ∧
      t.lr.ime = false ∧ s.Pushed t s.lr.pc ∧
      (s.lr.sp ≠ 0xFF10#16 → s.lr.sp ≠ 0xFF11#16 →
        t.lrRead 0xFF0F#16 = s.lrRead 0xFF0F#16 &&& ~~~(1#8 <<< k)) ∧
      s.Frame (.lrPc :: .ime :: .lrMem 0xFF0F#16 :: s.pushParts) t := by
  obtain ⟨u, hpush, hpushed, hframe⟩ := push16_of_canPush (s := s.acknowledge k) h s.lr.pc
  refine ⟨u.setLrPc (BitVec.ofNat 16 (0x0040 + 8 * k)), ?_, ?_, rfl, ?_, hpushed, fun h0 h1 => ?_, ?_⟩
  · rw [(enterInterrupt_eq s k).2 hif, hpush]
    rfl
  · exact hframe .status (by simp [State.pushParts])
  · exact hframe .ime (by simp [State.pushParts])
  · have hhi : ifAddr ≠ s.lr.sp - 1#16 := by unfold ifAddr; bv_omega
    have hlo : ifAddr ≠ s.lr.sp - 2#16 := by unfold ifAddr; bv_omega
    have hread : u.lrRead ifAddr = (s.acknowledge k).lrRead ifAddr :=
      hframe (.lrMem ifAddr) (by simp [State.pushParts, State.acknowledge, hhi, hlo])
    exact hread.trans (lrRead_acknowledge s k)
  · exact (((frame_acknowledge s k).trans hframe).trans (frame_setLrPc u _)).mono
      (by simp [State.pushParts, State.acknowledge, ifAddr])

end Sys2Proof.Machine

section
open Sys2Proof Sys2Proof.Machine

/-- Settles O57: each pushes the address after it, a conditional call where its condition holds. -/
theorem lrCalls : Obligations.LrCalls := by
  intro cc a16 n s
  exact ⟨fun h => ⟨callsTo_of_callTo rfl h, callsTo_of_callTo rfl h, fun hc => callsTo_of_callTo (if_pos hc) h⟩,
    fun hc => jumpsTo_of_advanceLr (len := 3) (if_neg (Bool.eq_false_iff.1 hc))⟩

/-- Settles O58: each pops the pc, a conditional return where its condition holds. -/
theorem lrReturns : Obligations.LrReturns := by
  intro cc s
  exact ⟨fun h => ⟨returnsWith_of_returnTo (len := 1) rfl h, returnsWith_of_leaveInterrupt (len := 1) rfl h,
      fun hc => returnsWith_of_returnTo (len := 1) (if_pos hc) h⟩,
    fun hc => jumpsTo_of_advanceLr (len := 1) (if_neg (Bool.eq_false_iff.1 hc))⟩

/-- Settles O59: each ends with its own bit or status written. -/
theorem lrControl : Obligations.LrControl := by
  intro b1 s
  refine ⟨⟨_, rfl, ⟨rfl, rfl⟩, rfl, rfl, frame_lrFallThrough ((frame_setIme _ _).trans (frame_setEiPending _ _)) _⟩,
    ⟨_, rfl, ⟨rfl, rfl⟩, rfl, frame_lrFallThrough (frame_setEiPending _ _) _⟩, ?halt,
    ⟨_, rfl, ⟨rfl, rfl⟩, rfl, frame_lrFallThrough (frame_setStatus _ _) _⟩⟩
  case halt =>
    by_cases h : s.lr.ime = false ∧ s.pending = true
    · simp only [if_pos h]
      exact ⟨_, exec_lrHalt_of_pending h, ⟨rfl, rfl⟩, rfl, frame_lrFallThrough (frame_setSkipNext _ _) _⟩
    · simp only [if_neg h]
      exact ⟨_, exec_lrHalt_of_not_pending h, ⟨rfl, rfl⟩, rfl, frame_lrFallThrough (frame_setStatus _ _) _⟩

/-- Settles O22: the dispatch acknowledges the source and pushes the pc, and fails as its first access that does. -/
theorem interruptDispatch : Obligations.InterruptDispatch := by
  intro s k hsys hs hime h5 hie hif hleast
  have hstep := step_of_leastPending hsys hs hime ⟨h5, ⟨hie, hif⟩, hleast⟩
  have hfail {f : Failure} (hf : (s.setStatus .running).enterInterrupt k = .error f) : step s = .next (s.crash f) := by
    rw [hstep, hf]
    rfl
  obtain ⟨hprotected, hentry⟩ := enterInterrupt_eq (s.setStatus .running) k
  refine ⟨fun h => hfail (hprotected h), fun h => ?_⟩
  have hpush {f : Failure} (hf : ((s.setStatus .running).acknowledge k).push16 s.lr.pc = .error f) :
      step s = .next (s.crash f) := hfail ((hentry h).trans (congrArg (Except.map _) hf))
  have hbyte := push16_protected ((s.setStatus .running).acknowledge k) s.lr.pc
  refine ⟨fun h2 => hpush ((push16_eq _ _).2 h2), fun h2 hlo => hpush ((hbyte h2).1 hlo),
    fun h2 hlo hhi => hpush ((hbyte h2).2 hlo hhi), fun hcan => ?_⟩
  obtain ⟨t, ht, hst, hpc, hcleared, hpushed, hbit, hframe⟩ :=
    enterInterrupt_of_canPush (s := s.setStatus .running) (k := k) h hcan
  exact ⟨t.respond (.cycles 20), hstep.trans (congrArg (finish _ 20) ht), rfl, hst, hpc, hcleared, hpushed, hbit,
    (((frame_setStatus s .running).trans hframe).trans (frame_respond t _)).mono (by simp [State.pushParts])⟩

end

/-! Proofs of the statements on the commands that change the state from outside: the timer ticks, the inputs, the
interrupt requests and the load of an image. -/

namespace Sys2Proof.Machine

/-! ## The timers (R26, R400, R401) -/

/-- A tick clamps at zero, so it does not wrap. -/
theorem tick_toNat (t : Byte) (n : Nat) : (tick t n).toNat = t.toNat - n :=
  (BitVec.toNat_ofNat _ _).trans (Nat.mod_eq_of_lt ((Nat.sub_le _ _).trans_lt t.isLt))

/-- The wake check of variant C8 neither reads nor writes a timer (R395). -/
theorem wakeC8_setTimers (s : State) (a b : Byte) : ((s.setDt a).setSt b).wakeC8 = (s.wakeC8.setDt a).setSt b := by
  by_cases hs : s.status = .halted
  · cases hk : leastKey s.c8.keys with
    | none => rw [wakeC8_of_not_woken (s := s) (.inr hk)]; exact wakeC8_of_not_woken (.inr hk)
    | some k => rw [wakeC8_of_leastKey hs hk]; exact wakeC8_of_leastKey (s := (s.setDt a).setSt b) hs hk
  · rw [wakeC8_of_not_woken (s := s) (.inl hs)]
    exact wakeC8_of_not_woken (.inl hs)

theorem updateTimersCommand_eq (n : Nat) (s : State) :
    (s.config.system = .c8 → updateTimersCommand n s =
      ((s.wakeC8.setDt (tick s.c8.dt n)).setSt (tick s.c8.st n)).respond .none) ∧
    (s.config.system = .lr → updateTimersCommand n s = s.wakeLr.respond .none) := by
  constructor <;> intro h <;> simp only [updateTimersCommand, h, wakeC8_setTimers]

/-! ## What a wake of variant LR leaves (R396, R397) -/

/-- Whether a source is pending depends on nothing but the tuple of variant LR (R383). -/
theorem pending_congr {s t : State} (h : t.lr = s.lr) : t.pending = s.pending := by
  simp only [State.pending, State.pendingSources, State.lrRead, h]

theorem wakeLr_lr (s : State) : s.wakeLr.lr = s.lr := by
  rw [wakeLr_eq]
  split <;> rfl

theorem wakeLr_status (s : State) :
    s.wakeLr.status = if s.status = .halted ∧ s.wakeLr.pending = true then .running else s.status := by
  rw [pending_congr (wakeLr_lr s), wakeLr_eq]
  split <;> rfl

theorem wakeStopped_lr (s : State) (vec : Vector Bool 8) : (s.wakeStopped vec).lr = s.lr := by
  unfold State.wakeStopped
  split <;> rfl

theorem wakeStopped_status (s : State) (vec : Vector Bool 8) :
    (s.wakeStopped vec).status = if s.status = .stopped ∧ anyHeld vec = true then .running else s.status := by
  unfold State.wakeStopped
  split <;> rfl

theorem frame_wakeStopped (s : State) (vec : Vector Bool 8) : s.Frame [.status] (s.wakeStopped vec) := by
  unfold State.wakeStopped
  split
  · exact frame_setStatus s .running
  · exact (State.Frame.refl s).mono (by simp)

/-! ## Requests of an interrupt (R387, R405) -/

theorem lrRead_requestIrq (s : State) (k : Nat) :
    (s.requestIrq k).lrRead ifAddr = s.lrRead ifAddr ||| (1#8 <<< k) :=
  (lrRead_lrPoke s ifAddr ifAddr _).trans (if_pos rfl)

theorem frame_requestIrq (s : State) (k : Nat) : s.Frame [.lrMem ifAddr] (s.requestIrq k) :=
  frame_lrPoke s ifAddr _

/-- Bit `k` as a number. -/
theorem one_shiftLeft_eq_ofNat (k : Nat) : 1#8 <<< k = BitVec.ofNat 8 (2 ^ k) := by
  apply BitVec.eq_of_toNat_eq
  simp [Nat.shiftLeft_eq]

theorem raiseIrqCommand_of_lt {k : Nat} {s : State} (hs : s.config.system = .lr) (hk : k < 5) :
    raiseIrqCommand k s = .next ((s.requestIrq k).wakeLr.respond .none) := by
  simp only [raiseIrqCommand, hs, if_pos hk]

/-! ## The inputs (R404, R405) -/

theorem setInputCommand_eq (s : State) :
    (∀ vec : Vector Bool 16, s.config.system = .c8 →
      setInputCommand vec.toList s = .next ((s.setKeys vec).wakeC8.respond .none)) ∧
    (∀ vec : Vector Bool 8, s.config.system = .lr →
      setInputCommand vec.toList s = .next ((setInputLr vec s).respond .none)) := by
  constructor <;> intro vec h <;> simp only [setInputCommand, h] <;> exact dif_pos vec.length_toList

theorem anyHeld_iff (vec : Vector Bool 8) : anyHeld vec = true ↔ ∃ k : Fin 8, vec[k.val] = true := by
  simp [anyHeld]

theorem newPress_iff (old new : Vector Bool 8) :
    newPress old new = true ↔ ∃ k : Fin 8, new[k.val] = true ∧ old[k.val] = false := by
  simp [newPress]

/-- The request `SET_INPUT` of variant LR makes on a new press, before it wakes the core (R405). -/
def State.requestOnPress (s : State) (vec : Vector Bool 8) : State :=
  if newPress s.lr.buttons vec then (s.setButtons vec).requestIrq 4 else s.setButtons vec

theorem setInputLr_eq (s : State) (vec : Vector Bool 8) :
    setInputLr vec s = ((s.requestOnPress vec).wakeStopped vec).wakeLr := rfl

theorem setInputLr_lr (s : State) (vec : Vector Bool 8) : (setInputLr vec s).lr = (s.requestOnPress vec).lr :=
  (wakeLr_lr _).trans (wakeStopped_lr _ vec)

theorem frame_requestOnPress (s : State) (vec : Vector Bool 8) :
    s.Frame [.buttons, .lrMem ifAddr] (s.requestOnPress vec) := by
  unfold State.requestOnPress
  split
  · exact (frame_setButtons s vec).trans (frame_requestIrq _ 4)
  · exact (frame_setButtons s vec).mono (by simp)

theorem requestOnPress_buttons (s : State) (vec : Vector Bool 8) : (s.requestOnPress vec).lr.buttons = vec := by
  unfold State.requestOnPress
  split <;> rfl

theorem lrRead_requestOnPress (s : State) (vec : Vector Bool 8) : (s.requestOnPress vec).lrRead ifAddr =
    if newPress s.lr.buttons vec then s.lrRead ifAddr ||| 0x10#8 else s.lrRead ifAddr := by
  unfold State.requestOnPress
  split
  · exact lrRead_requestIrq _ 4
  · rfl

/-- A core woken from `Stopped` runs, so only one left as it was can be woken from `Halted` (R396, R397). -/
theorem setInputLr_status (s : State) (vec : Vector Bool 8) : (setInputLr vec s).status =
    if s.status = .stopped ∧ anyHeld vec = true then .running
    else if s.status = .halted ∧ (setInputLr vec s).pending = true then .running else s.status := by
  have hrequest : (s.requestOnPress vec).status = s.status := frame_requestOnPress s vec .status (by simp)
  rw [setInputLr_eq, wakeLr_status, wakeStopped_status, hrequest]
  split <;> rfl

/-! ## The load of an image (R424, R425) -/

theorem loadCommand_eq (image : List Byte) (s : State) :
    (image.length ≤ imageMax s.config.system →
      loadCommand image s = (placeImage (resetCommand s) image).respond .loaded) ∧
    (imageMax s.config.system < image.length →
      loadCommand image s = s.respond (.err (.invalidRom image.length))) :=
  ⟨fun h => if_neg (Nat.not_lt.2 h), fun h => if_pos h⟩

theorem placeImage_eq (s : State) (image : List Byte) :
    (s.config.system = .c8 →
      placeImage s image = s.setC8Mem (writeCells unlistedC8 s.c8.mem 0x200 image)) ∧
    (s.config.system = .lr →
      placeImage s image = s.setLrMem (writeCells unlistedLr s.lr.mem 0x0000 image)) := by
  constructor <;> intro h <;> simp only [placeImage, h, loadBase]

/-- The bytes of an image placed from address 0 on. -/
theorem lrRead_setLrMem_writeCells (s : State) (vs : List Byte) (a : Word) :
    (s.setLrMem (writeCells unlistedLr s.lr.mem 0 vs)).lrRead a =
      if h : a.toNat < vs.length then vs[a.toNat] else s.lrRead a := by
  simp [State.lrRead, readCell_writeCells]

theorem frame_setLrMem_writeCells (s : State) (vs : List Byte) :
    s.Frame ((List.range vs.length).map fun k => .lrMem (BitVec.ofNat 16 k))
      (s.setLrMem (writeCells unlistedLr s.lr.mem 0 vs)) := by
  intro p hp
  cases p with
  | lrMem a =>
    have ha : ¬ a.toNat < vs.length := fun h =>
      hp (List.mem_map.2 ⟨a.toNat, List.mem_range.2 h, by rw [BitVec.ofNat_toNat, BitVec.setWidth_eq]⟩)
    exact (lrRead_setLrMem_writeCells s vs a).trans (dif_neg ha)
  | _ => rfl

end Sys2Proof.Machine

section
open Sys2Proof Sys2Proof.Machine

/-- Settles O24: the timers are written beside the wake check, which does not touch them. -/
theorem updateTimers : Obligations.UpdateTimers := by
  intro n s
  refine ⟨_, rfl, fun h => ?_, fun h => ?_⟩
  · rw [(updateTimersCommand_eq n s).1 h]
    exact ⟨tick_toNat _ n, tick_toNat _ n,
      ((frame_setDt s.wakeC8 _).trans (frame_setSt _ _)).trans (frame_respond _ _)⟩
  · rw [(updateTimersCommand_eq n s).2 h]
    exact frame_respond _ _

/-- Settles O25: an input is stored and a request made before the wakes, which write the status only. -/
theorem hostInputs : Obligations.HostInputs := by
  intro s
  refine ⟨fun vec hs => ?keys, fun vec hs => ?buttons, fun k hs hk => ?irq⟩
  case keys =>
    exact ⟨_, (setInputCommand_eq s).1 vec hs, frame_wakeC8 (s.setKeys vec) .keys (by simp), frame_respond _ _⟩
  case buttons =>
    have hif : (setInputLr vec s).lrRead ifAddr = _ :=
      (lrRead_congr (congrArg LrState.mem (setInputLr_lr s vec)) ifAddr).trans (lrRead_requestOnPress s vec)
    refine ⟨_, (setInputCommand_eq s).2 vec hs,
      (congrArg LrState.buttons (setInputLr_lr s vec)).trans (requestOnPress_buttons s vec), fun hnew => ?_,
      fun hold => ?_, ?_, ?_⟩
    · exact hif.trans (if_pos ((newPress_iff _ _).2 hnew))
    · refine hif.trans (if_neg fun hnew => ?_)
      obtain ⟨k, hk, hk'⟩ := (newPress_iff _ _).1 hnew
      cases (hold k hk).symm.trans hk'
    · simp only [← anyHeld_iff]
      exact setInputLr_status s vec
    · exact ((((frame_requestOnPress s vec).trans (frame_wakeStopped _ vec)).trans (frame_wakeLr _)).trans
        (frame_respond _ _)).mono (by simp [ifAddr])
  case irq =>
    refine ⟨_, raiseIrqCommand_of_lt hs hk, ?_, wakeLr_status (s.requestIrq k), ?_⟩
    · exact (lrRead_congr (congrArg LrState.mem (wakeLr_lr _)) ifAddr).trans
        ((lrRead_requestIrq s k).trans (by rw [one_shiftLeft_eq_ofNat]; rfl))
    · exact (((frame_requestIrq s k).trans (frame_wakeLr _)).trans (frame_respond _ _)).mono (by simp [ifAddr])

/-- Settles O27: an image that fits is placed in the reset memory, and a longer one only answered. -/
theorem loadPlacesImage : Obligations.LoadPlacesImage := by
  intro image s
  refine ⟨fun hfit => ?_, fun hlong => congrArg Host.Outcome.next ((loadCommand_eq image s).2 hlong)⟩
  have hload := (loadCommand_eq image s).1 hfit
  refine ⟨_, resetCommand s, congrArg Host.Outcome.next hload, rfl, rfl, fun hs => ?_, fun hs => ?_⟩
  · rw [(placeImage_eq (resetCommand s) image).1 hs]
    exact ⟨fun a => c8Byte_setC8Mem_writeCells (resetCommand s) 0x200 a image,
      ((frame_writeCells (resetCommand s) 0x200 image).trans (frame_respond _ _)).mono (by simp)⟩
  · rw [(placeImage_eq (resetCommand s) image).2 hs]
    exact ⟨lrRead_setLrMem_writeCells (resetCommand s) image,
      ((frame_setLrMem_writeCells (resetCommand s) image).trans (frame_respond _ _)).mono (by simp)⟩

end
